-- ==== Sys2Proof/Word.lean ====
section
/-! DEFINITION. The word types of the core: the buses carry bytes and the CPU address space has 16
bits (R10, R55). -/

namespace Sys2Proof

/-- A byte: A, X, Y, SP, STAT, every memory cell and every bus access (R10, R56). -/
abbrev Byte := BitVec 8

/-- A 16-bit CPU address; PC, `v`, `t` and the DMA source address have this width too (R10, R35). -/
abbrev Addr := BitVec 16

end Sys2Proof
end

