-- ==== Sys2Proof/Machine/Bits.lean ====
section
/-! DEFINITION. Bit-field, extension and byte-order helpers in the spec's notation (R12). -/

namespace Sys2Proof

/-- `lo(w) = w[7:0]` (R12). -/
def lo (w : Addr) : Byte := w.setWidth 8

/-- `hi(w) = w[15:8]` (R12). -/
def hi (w : Addr) : Byte := (w >>> 8).setWidth 8

/-- `h:l`, the 16-bit value with high byte `h` and low byte `l` (R12, R54). -/
def mkAddr (h l : Byte) : Addr := h ++ l

/-- `zext_16(v)` (R12). -/
def zext16 (v : Byte) : Addr := v.setWidth 16

/-- `sext_16(v)`: an 8-bit two's-complement value widened to 16 bits (R12, R72). -/
def sext16 (v : Byte) : Addr := v.signExtend 16

/-- `v` with bit `n` made equal to `b`. -/
def putBit (n : Nat) (b : Bool) (v : Byte) : Byte :=
  if b then v ||| (1#8 <<< n) else v &&& ~~~(1#8 <<< n)

/-- A flag as the byte 0 or 1. -/
def bit8 (b : Bool) : Byte := if b then 1#8 else 0#8

/-- `Reverse8`: bit i and bit 7-i change places (R224). -/
def reverse8 (v : Byte) : Byte := v.reverse

end Sys2Proof
end

