-- ==== Sys2Proof/Config.lean ====
section
/-! DEFINITION. What a launch fixes (R11) and the values the spec leaves OPEN: the latter are opaque
constants, so no proof can lean on a number for them. -/

namespace Sys2Proof

/-- A colour of the frame buffer (R230). -/
structure Rgb where
  r : Byte
  g : Byte
  b : Byte
  deriving DecidableEq, Repr, Inhabited

/-- `KIL_POLICY` (R11, R181). -/
inductive KilPolicy where
  | nop
  | jam
  deriving DecidableEq, Repr

/-- `UNSTABLE_POLICY` (R11, R182). -/
inductive UnstablePolicy where
  | refuse
  | nmos
  deriving DecidableEq, Repr

/-- `CART_LOW_WINDOW`: who answers $4020-$7FFF (R11, R50). -/
inductive LowWindow where
  | unmapped
  | cartridge
  deriving DecidableEq, Repr

/-- `PALETTE_READ_BUFFER`: what a palette read of $2007 leaves in the buffer (R11, R201). -/
inductive PaletteBuffer where
  | underlying
  | palette
  deriving DecidableEq, Repr

/-- The launch parameters of R11 that have a closed set of values. They are fixed for a launch; the
model keeps them beside the state because `step` takes nothing but a state (log entry 1). -/
structure Launch where
  kilPolicy : KilPolicy
  unstablePolicy : UnstablePolicy
  openBusValue : Byte
  cartLowWindow : LowWindow
  nmiOnCtrlEnable : Bool
  paletteReadBuffer : PaletteBuffer
  leftClip : Bool
  deriving DecidableEq, Repr

/-- The launch the reset state carries: R11's values, but for `UNSTABLE_POLICY`, where R11's table
says `refuse` and the launch takes the spec's other choice `nmos`, under which the eight unstable
opcodes run (DESIGN CHOICE, log entry 2; both choices are modelled). -/
def Launch.atReset : Launch where
  kilPolicy := .nop
  unstablePolicy := .nmos
  openBusValue := 0x00#8
  cartLowWindow := .unmapped
  nmiOnCtrlEnable := false
  paletteReadBuffer := .underlying
  leftClip := true

/-- `ANE_MAGIC`, OPEN (R11, R183; log entry 3). -/
opaque Config.aneMagic : Byte

/-- `LXA_MAGIC`, OPEN (R11, R184; log entry 3). -/
opaque Config.lxaMagic : Byte

/-- `PALETTE_RGB`, the 64-entry hardware palette, OPEN (R11, R230; log entry 4). -/
opaque Config.paletteRgb : BitVec 6 → Rgb

/-- The part of `EMPHASIS_RGB` that is OPEN: what the emphasis bits do when they are not all 0
(R11, R230; log entry 4). -/
opaque Config.emphasisRgb : BitVec 3 → Rgb → Rgb

/-- The InputDevice's answers past the input trace a state carries, by a running number (R204, R251;
log entry 5). -/
opaque Config.inputByte : Nat → Byte

/-- `Cartridge.cpu_read` of a cartridge whose mapper is left free: a function of the cartridge's own
state and the address (R250; log entry 6). -/
opaque Config.cartCpuRead : Nat → Addr → Byte

/-- `Cartridge.cpu_write` of a free cartridge: the cartridge's next own state (R250; log entry 6). -/
opaque Config.cartCpuWrite : Nat → Addr → Byte → Nat

/-- `Cartridge.ppu_read` of a free cartridge (R250; log entry 6). -/
opaque Config.cartPpuRead : Nat → Addr → Byte

/-- `Cartridge.ppu_write` of a free cartridge: the cartridge's next own state (R250; log entry 6). -/
opaque Config.cartPpuWrite : Nat → Addr → Byte → Nat

end Sys2Proof
end

