-- ==== Sys2Proof/Machine/State.lean ====
section
/-! DEFINITION. The machine's state: every piece of state the spec's 10_state.md gives the core, the
collaborators' own data (log entries 5, 6), the launch parameters (log entry 1), and the state after
power-on reset (R253, R254). -/

namespace Sys2Proof.Machine

/-- A sparse memory: address and byte pairs, addresses strictly rising, no entry equal to what an
unlisted address reads as (`Memory.unlisted`, log entry 7). -/
abbrev Memory := List Host.Cell

/-- The CPU's registers and counters: `A`, `X`, `Y`, `PC`, `SP`, `STAT` (R18-R23), the cycle counters
`cycl` and `next` (R25), and the KIL bookkeeping (R26). -/
structure Cpu where
  a : Byte
  x : Byte
  y : Byte
  pc : Addr
  sp : Byte
  stat : Byte
  cycl : Nat
  next : Nat
  killCount : Nat
  jammed : Bool
  deriving DecidableEq, Repr

/-- What the shared bus owns: internal RAM (R27, keys 0..0x7FF), the NMI request and the OAM-DMA
handshake (R28), the level the host drives on `irq_line` (R29), the controller strobe (R30). -/
structure Bus where
  ram : Memory
  nmiSignal : Bool
  oamDmaCpu : Bool
  oamDmaPpu : Bool
  oamDmaAddr : Addr
  irqLine : Bool
  ctrlStrobe : Bool
  deriving DecidableEq, Repr

/-- One OAM entry of 4 bytes, in the order Y, tile, attribute, X (R37). -/
structure Sprite where
  y : Byte
  tile : Byte
  attr : Byte
  x : Byte
  deriving DecidableEq, Repr, Inhabited

/-- One slot of the current sprite buffer: `cur_sprites[i]`, `sp_lo[i]`, `sp_hi[i]`, `sp_x[i]` (R42). -/
structure SpriteSlot where
  sprite : Sprite
  lo : Byte
  hi : Byte
  x : Byte
  deriving DecidableEq, Repr, Inhabited

/-- The PPU: its register file (R31-R36), its memories (R37 OAM, keys 0..255; R38 nametables, key
1024 * bank + offset; R39 palette, keys 0..31), its counters (R40), the background pipeline (R41), the
sprite pipeline (R42; both buffers have 8 entries) and the frame buffer (R43: 240 rows, each with keys
0..1023, four bytes a pixel). -/
structure Ppu where
  ctrl : Byte
  mask : Byte
  spriteOverflow : Bool
  sprite0Hit : Bool
  vblank : Bool
  nmiOccurred : Bool
  oamAddr : Byte
  v : Addr
  t : Addr
  fineX : BitVec 3
  w : Bool
  dataBuffer : Byte
  oam : Memory
  nt : Memory
  pal : Memory
  scanline : Nat
  dot : Nat
  oddFrame : Bool
  frameReady : Bool
  bgNextTileId : Byte
  bgNextAttr : BitVec 2
  bgNextLo : Byte
  bgNextHi : Byte
  shPatLo : Addr
  shPatHi : Addr
  shAttrLo : Addr
  shAttrHi : Addr
  nextSprites : List Sprite
  nextCount : Nat
  nextSprite0 : Bool
  curSprites : List SpriteSlot
  curCount : Nat
  curSprite0 : Bool
  frame : List Memory
  deriving DecidableEq, Repr

/-- Nametable mirroring, a fact of the cartridge header fixed for a launch (R60). -/
inductive Mirroring where
  | horizontal
  | vertical
  | fourScreen
  deriving DecidableEq, Repr

/-- How the Cartridge collaborator answers (R250; log entry 6). `image`: its answers are the bytes
listed in `prg` and `chr`, with writable PRG-RAM below $8000 (`prgRam`) or writable pattern memory
(`chrRam`) or not. `free`: every answer and every effect of a write is left free. -/
inductive CartKind where
  | image (prgRam chrRam : Bool)
  | free
  deriving DecidableEq, Repr

/-- The Cartridge collaborator's data: `prg` is what `cpu_read` answers (keys are CPU addresses),
`chr` what `ppu_read` answers (keys 0..0x1FFF), `mapper` the own state of a `free` cartridge. -/
structure Cartridge where
  kind : CartKind
  prg : Memory
  chr : Memory
  mapper : Nat
  mirroring : Mirroring
  deriving DecidableEq, Repr

/-- A call the core makes on the InputDevice when $4016 is written (R205, R251). -/
inductive InputCall where
  | latch (strobeOn : Bool)
  | snapshotButtons
  deriving DecidableEq, Repr

/-- The InputDevice collaborator's data: the answers still to come of the run's input trace, how many
reads went past it, and the `latch`/`snapshot_buttons` calls made so far, oldest first (R251; log
entry 5). -/
structure InputDevice where
  answers : List Byte
  past : Nat
  calls : List InputCall
  deriving DecidableEq, Repr

/-- The two hardware interrupts (R233). -/
inductive Interrupt where
  | nmi
  | irq
  deriving DecidableEq, Repr

/-- The state of the core, its collaborators' data and its launch parameters. -/
structure State where
  cpu : Cpu
  bus : Bus
  ppu : Ppu
  cart : Cartridge
  input : InputDevice
  launch : Launch
  deriving DecidableEq, Repr

/-- Faults: there is none. "No fault exists in this core: the source has no trap" (R232 and
93_implementation_defined.md section 1), every address decodes, and every opcode has a row. -/
inductive Fault where
  deriving DecidableEq, Repr

/-- Refusals. -/
inductive Refusal where
  /-- Raised by `exec` for an instruction that has no meaning yet; safe. No arm raises it. -/
  | notModelled (mnemonic : String)
  /-- Raised by the eight unstable opcodes when the launch's `UNSTABLE_POLICY` is `refuse`: "the model
  has no defined successor state" (R182); safe. -/
  | unstableOpcode (opcode : Byte)
  deriving DecidableEq, Repr

/-- The CPU after reset (R253, D3, D4, D13). PC is the vector $FFFC-$FFFD read from the cartridge of
`State.reset`, which lists no byte (log entry 8). -/
def Cpu.atReset : Cpu where
  a := 0x00#8
  x := 0x00#8
  y := 0x00#8
  pc := 0x0000#16
  sp := 0xFD#8
  stat := 0x24#8
  cycl := 0
  next := 7
  killCount := 0
  jammed := false

/-- The bus after power-on reset (R253, D5, D6, D15, D27; RAM: log entry 7). -/
def Bus.atReset : Bus where
  ram := []
  nmiSignal := false
  oamDmaCpu := false
  oamDmaPpu := false
  oamDmaAddr := 0x0000#16
  irqLine := false
  ctrlStrobe := false

/-- The PPU after power-on reset (R253, D5, D6; OAM, nametables and palette: log entry 7). -/
def Ppu.atReset : Ppu where
  ctrl := 0x00#8
  mask := 0x00#8
  spriteOverflow := false
  sprite0Hit := false
  vblank := false
  nmiOccurred := false
  oamAddr := 0x00#8
  v := 0x0000#16
  t := 0x0000#16
  fineX := 0#3
  w := false
  dataBuffer := 0x00#8
  oam := []
  nt := []
  pal := []
  scanline := 0
  dot := 0
  oddFrame := false
  frameReady := false
  bgNextTileId := 0x00#8
  bgNextAttr := 0#2
  bgNextLo := 0x00#8
  bgNextHi := 0x00#8
  shPatLo := 0x0000#16
  shPatHi := 0x0000#16
  shAttrLo := 0x0000#16
  shAttrHi := 0x0000#16
  nextSprites := List.replicate 8 ⟨0x00#8, 0x00#8, 0x00#8, 0x00#8⟩
  nextCount := 0
  nextSprite0 := false
  curSprites := List.replicate 8 ⟨⟨0x00#8, 0x00#8, 0x00#8, 0x00#8⟩, 0x00#8, 0x00#8, 0x00#8⟩
  curCount := 0
  curSprite0 := false
  frame := List.replicate 240 []

/-- The cartridge of `State.reset`: no byte listed, read-only, vertical mirroring (log entry 6). -/
def Cartridge.atReset : Cartridge where
  kind := .image false false
  prg := []
  chr := []
  mapper := 0
  mirroring := .vertical

/-- The InputDevice of `State.reset`: no answer supplied yet, no call made (log entry 5). -/
def InputDevice.atReset : InputDevice where
  answers := []
  past := 0
  calls := []

/-- The machine right after power-on reset (R253, R254). -/
def State.reset : State where
  cpu := Cpu.atReset
  bus := Bus.atReset
  ppu := Ppu.atReset
  cart := Cartridge.atReset
  input := InputDevice.atReset
  launch := Launch.atReset

/-- How one instruction, one clock or one tick ends. -/
abbrev Result := Host.Outcome State Fault Refusal

end Sys2Proof.Machine
end

