-- ==== Sys2Proof/Machine/Flags.lean ====
section
/-! DEFINITION. The status register STAT and every flag computation (R22-R24, R103, R120-R123). -/

namespace Sys2Proof.Machine

/-- Carry, STAT bit 0 (R22). -/
def Cpu.c (r : Cpu) : Bool := r.stat.getLsbD 0
/-- Zero, STAT bit 1 (R22). -/
def Cpu.z (r : Cpu) : Bool := r.stat.getLsbD 1
/-- InterruptDisable, STAT bit 2 (R22). -/
def Cpu.i (r : Cpu) : Bool := r.stat.getLsbD 2
/-- Decimal, STAT bit 3 (R22): stored, and read by no instruction (R24). -/
def Cpu.d (r : Cpu) : Bool := r.stat.getLsbD 3
/-- Break1, STAT bit 4 (R22). -/
def Cpu.b1 (r : Cpu) : Bool := r.stat.getLsbD 4
/-- Break2, STAT bit 5 (R22). -/
def Cpu.b2 (r : Cpu) : Bool := r.stat.getLsbD 5
/-- Overflow, STAT bit 6 (R22). -/
def Cpu.v (r : Cpu) : Bool := r.stat.getLsbD 6
/-- Negative, STAT bit 7 (R22). -/
def Cpu.n (r : Cpu) : Bool := r.stat.getLsbD 7

/-- `STAT.C <- b`. -/
def Cpu.setC (b : Bool) (r : Cpu) : Cpu := { r with stat := putBit 0 b r.stat }
/-- `STAT.Z <- b`. -/
def Cpu.setZ (b : Bool) (r : Cpu) : Cpu := { r with stat := putBit 1 b r.stat }
/-- `STAT.I <- b`. -/
def Cpu.setI (b : Bool) (r : Cpu) : Cpu := { r with stat := putBit 2 b r.stat }
/-- `STAT.D <- b`. -/
def Cpu.setD (b : Bool) (r : Cpu) : Cpu := { r with stat := putBit 3 b r.stat }
/-- `STAT.V <- b`. -/
def Cpu.setV (b : Bool) (r : Cpu) : Cpu := { r with stat := putBit 6 b r.stat }
/-- `STAT.N <- b`. -/
def Cpu.setN (b : Bool) (r : Cpu) : Cpu := { r with stat := putBit 7 b r.stat }

/-- `SetZN(v)` (R13, R103). -/
def Cpu.setZN (v : Byte) (r : Cpu) : Cpu := (r.setZ (v == 0#8)).setN (v.getLsbD 7)

/-- The copy of STAT that BRK and PHP push: B1 = 1 and B2 = 1 (R23, R117, R155). -/
def Cpu.pushedByBreak (r : Cpu) : Byte := r.stat ||| 0x30#8

/-- The copy of STAT that NMI and IRQ entry push: B1 = 0 and B2 = 1 (R23, R238). -/
def Cpu.pushedByInterrupt (r : Cpu) : Byte := (r.stat &&& 0xEF#8) ||| 0x20#8

/-- What PLP and RTI make of a pulled byte: the B bits are masked back in (R23, R119, R156). -/
def statFromPulled (v : Byte) : Byte := (v &&& 0xCF#8) ||| 0x20#8

/-- `AddWithCarry(m)`: the one adder, on a 9-bit intermediate sum; D is not looked at (R24, R120). -/
def Cpu.addWithCarry (m : Byte) (r : Cpu) : Cpu :=
  let sum := r.a.toNat + m.toNat + r.c.toNat
  let res := BitVec.ofNat 8 sum
  let overflow := (r.a ^^^ m) &&& 0x80#8 == 0#8 && (r.a ^^^ res) &&& 0x80#8 != 0#8
  ({ (r.setC (decide (255 < sum))).setV overflow with a := res }).setZN res

/-- `SubWithBorrow(m)` is `AddWithCarry(m ^ 0xFF)` (R121). -/
def Cpu.subWithBorrow (m : Byte) (r : Cpu) : Cpu := r.addWithCarry (m ^^^ 0xFF#8)

/-- `Compare(reg, m)`: no register is written and V is unchanged (R122). -/
def Cpu.compare (reg m : Byte) (r : Cpu) : Cpu := (r.setC (decide (m ≤ reg))).setZN (reg - m)

/-- `ShiftLeft(v)`: the result; the new carry is `v[7]` (R123). -/
def shiftLeft (v : Byte) : Byte := v <<< 1
/-- `ShiftRight(v)`: the result; the new carry is `v[0]` (R123). -/
def shiftRight (v : Byte) : Byte := v >>> 1
/-- `RotateLeft(v)` with the carry before the instruction; the new carry is `v[7]` (R123). -/
def rotateLeft (v : Byte) (carry : Bool) : Byte := (v <<< 1) ||| bit8 carry
/-- `RotateRight(v)` with the carry before the instruction; the new carry is `v[0]` (R123). -/
def rotateRight (v : Byte) (carry : Bool) : Byte := (v >>> 1) ||| (bit8 carry <<< 7)

/-- `A <- v; SetZN(A)`. -/
def Cpu.loadA (v : Byte) (r : Cpu) : Cpu := { r with a := v }.setZN v
/-- `X <- v; SetZN(X)`. -/
def Cpu.loadX (v : Byte) (r : Cpu) : Cpu := { r with x := v }.setZN v
/-- `Y <- v; SetZN(Y)`. -/
def Cpu.loadY (v : Byte) (r : Cpu) : Cpu := { r with y := v }.setZN v

/-- `BIT`: Z from `A & M`, N and V copied from bits 7 and 6 of M (R129). -/
def Cpu.bitTest (m : Byte) (r : Cpu) : Cpu :=
  ((r.setZ (r.a &&& m == 0#8)).setN (m.getLsbD 7)).setV (m.getLsbD 6)

/-- The new carry `c` and `SetZN(r)` of a shift or rotate (R139-R142). -/
def Cpu.shifted (c : Bool) (res : Byte) (r : Cpu) : Cpu := (r.setC c).setZN res

/-- `AAC`: AND immediate, then C takes N (R173). -/
def Cpu.andCarry (m : Byte) (r : Cpu) : Cpu :=
  let u := r.loadA (r.a &&& m)
  u.setC u.n

/-- `ASR`: AND immediate, then shift A right; C is bit 0 of `A & M` (R174). -/
def Cpu.andShiftRight (m : Byte) (r : Cpu) : Cpu :=
  let t := r.a &&& m
  (r.setC (t.getLsbD 0)).loadA (shiftRight t)

/-- `ARR`: AND immediate, then rotate A right; C is bit 6 and V bit 6 XOR bit 5 of the result (R175). -/
def Cpu.andRotateRight (m : Byte) (r : Cpu) : Cpu :=
  let res := rotateRight (r.a &&& m) r.c
  ((r.loadA res).setC (res.getLsbD 6)).setV (res.getLsbD 6 ^^ res.getLsbD 5)

/-- `AXS`: X takes `(A & X) - M` without borrow; C = 1 when there is none; V unchanged (R176). -/
def Cpu.andXSubtract (m : Byte) (r : Cpu) : Cpu :=
  let t := r.a &&& r.x
  (r.setC (decide (m ≤ t))).loadX (t - m)

end Sys2Proof.Machine
end

