-- ==== Sys2Proof/Machine/Memory.lean ====
section
/-! DEFINITION. The sparse memories: what an unlisted address reads as, reading, writing, and the
canonical form. RAM, OAM, the nametables, the palette, the frame buffer and the cartridge's images are
all kept this way. -/

namespace Sys2Proof.Machine

/-- What an address that is not listed reads as, in every memory: 0x00. For the frame buffer that is the
reset value (R43); for RAM, OAM, nametables and palette, whose power-on contents are OPEN, it is the
model's (DESIGN CHOICE, log entry 7). -/
def Memory.unlisted : Byte := 0x00#8

/-- The byte at an address. -/
def Memory.get (m : Memory) (a : Nat) : Byte :=
  match m with
  | [] => Memory.unlisted
  | c :: rest => if c.1 = a then c.2 else Memory.get rest a

/-- Store a byte: the cell takes its place in the rising order, and a cell that would hold what an
unlisted address reads as is not listed. -/
def Memory.put (m : Memory) (a : Nat) (b : Byte) : Memory :=
  match m with
  | [] => if b = Memory.unlisted then [] else [(a, b)]
  | c :: rest =>
    if c.1 < a then c :: Memory.put rest a b
    else if c.1 = a then (if b = Memory.unlisted then rest else (a, b) :: rest)
    else (if b = Memory.unlisted then c :: rest else (a, b) :: c :: rest)

/-- The addresses rise strictly, each is at least `low`, and no cell holds the unlisted value. -/
def Memory.wfFrom (low : Nat) (m : Memory) : Bool :=
  match m with
  | [] => true
  | c :: rest =>
    decide (low ≤ c.1) && decide (c.2 ≠ Memory.unlisted) && Memory.wfFrom (c.1 + 1) rest

/-- The canonical form of a memory. -/
def Memory.wf (m : Memory) : Bool := Memory.wfFrom 0 m

/-- Every listed address is below `bound`. -/
def Memory.below (m : Memory) (bound : Nat) : Bool := m.all fun c => decide (c.1 < bound)

/-- Every listed byte has no bit outside `keep`; used for the 6-bit palette (R39). -/
def Memory.within (m : Memory) (keep : Byte) : Bool := m.all fun c => c.2 &&& keep == c.2

/-- A memory whose cells, whatever their order, are those of `cells`, each masked with `keep`. -/
def Memory.ofCells (keep : Byte) (cells : List Host.Cell) : Memory :=
  cells.foldl (fun m c => m.put c.1 (c.2 &&& keep)) []

end Sys2Proof.Machine
end

