-- ==== Sys2Proof/Machine/Cartridge.lean ====
section
/-! DEFINITION. The Cartridge collaborator's four operations (R250), as the core calls them. An `image`
cartridge answers from its bytes; a `free` one answers by the open functions of Config (log entry 6).
Reads change nothing (R57). -/

namespace Sys2Proof.Machine

/-- `Cartridge.cpu_read(addr)`. -/
def Cartridge.cpuRead (c : Cartridge) (a : Addr) : Byte :=
  match c.kind with
  | .image _ _ => c.prg.get a.toNat
  | .free => Config.cartCpuRead c.mapper a

/-- `Cartridge.cpu_write(addr, value)`: an image stores below $8000 when it has PRG-RAM there and
ignores every other write. -/
def Cartridge.cpuWrite (c : Cartridge) (a : Addr) (v : Byte) : Cartridge :=
  match c.kind with
  | .image prgRam _ =>
    if prgRam && a.ult 0x8000#16 then { c with prg := c.prg.put a.toNat v } else c
  | .free => { c with mapper := Config.cartCpuWrite c.mapper a v }

/-- `Cartridge.ppu_read(addr)`, for an address below $2000. -/
def Cartridge.ppuRead (c : Cartridge) (a : Addr) : Byte :=
  match c.kind with
  | .image _ _ => c.chr.get a.toNat
  | .free => Config.cartPpuRead c.mapper a

/-- `Cartridge.ppu_write(addr, value)`: "CHR-RAM or ignored, the cartridge's business" (R59). -/
def Cartridge.ppuWrite (c : Cartridge) (a : Addr) (v : Byte) : Cartridge :=
  match c.kind with
  | .image _ chrRam => if chrRam then { c with chr := c.chr.put a.toNat v } else c
  | .free => { c with mapper := Config.cartPpuWrite c.mapper a v }

end Sys2Proof.Machine
end

