-- ==== Sys2Proof/Machine/PpuBus.lean ====
section
/-! DEFINITION. The PPU address space (R58-R61) and the PPU register file at $2000-$2007
(48_ppu_registers.md). -/

namespace Sys2Proof.Machine

/-- Replace the PPU's part of the state. -/
def State.mapPpu (f : Ppu → Ppu) (s : State) : State := { s with ppu := f s.ppu }

/-- `greyscale`, PPUMASK bit 0 (R32). -/
def Ppu.greyscale (p : Ppu) : Bool := p.mask.getLsbD 0
/-- `increment_mode`, PPUCTRL bit 2 (R31). -/
def Ppu.incrementMode (p : Ppu) : Bool := p.ctrl.getLsbD 2
/-- `nmi_enable`, PPUCTRL bit 7 (R31). -/
def Ppu.nmiEnable (p : Ppu) : Bool := p.ctrl.getLsbD 7

/-- `NtBank` of the logical nametable `q` = 0..3 (R60). -/
def ntBank (m : Mirroring) (q : Nat) : Nat :=
  match m with
  | .horizontal => q / 2
  | .vertical => q % 2
  | .fourScreen => q

/-- The cell of nametable RAM that a PPU address in $2000-$3EFF reaches (R38, R60). -/
def ntCell (m : Mirroring) (a : Addr) : Nat :=
  1024 * ntBank m (a.toNat / 1024 % 4) + a.toNat % 1024

/-- `PalIndex`: the entries 0x10, 0x14, 0x18 and 0x1C are 0x00, 0x04, 0x08 and 0x0C (R61). -/
def palIndex (a : Addr) : Nat :=
  let i := a.toNat % 32
  if 16 ≤ i && i % 4 == 0 then i - 16 else i

/-- `PpuRead(addr)` (R58). -/
def ppuRead (addr : Addr) (s : State) : Byte :=
  let a := addr &&& 0x3FFF#16
  if a.ult 0x2000#16 then s.cart.ppuRead a
  else if a.ult 0x3F00#16 then s.ppu.nt.get (ntCell s.cart.mirroring a)
  else s.ppu.pal.get (palIndex a) &&& (if s.ppu.greyscale then 0x30#8 else 0x3F#8)

/-- `PpuWrite(addr, v)` (R59). -/
def ppuWrite (addr : Addr) (v : Byte) (s : State) : State :=
  let a := addr &&& 0x3FFF#16
  if a.ult 0x2000#16 then { s with cart := s.cart.ppuWrite a v }
  else if a.ult 0x3F00#16 then
    s.mapPpu fun p => { p with nt := p.nt.put (ntCell s.cart.mirroring a) v }
  else s.mapPpu fun p => { p with pal := p.pal.put (palIndex a) (v &&& 0x3F#8) }

/-- The value of PPUSTATUS: vblank, sprite-0 hit and sprite overflow in bits 7, 6, 5; bits 4:0 are 0
(R33, R194). -/
def Ppu.statusByte (p : Ppu) : Byte :=
  (bit8 p.vblank <<< 7) ||| (bit8 p.sprite0Hit <<< 6) ||| (bit8 p.spriteOverflow <<< 5)

/-- What a $2002 read clears: `w`, `nmi_occurred` and `vblank`, nothing else (R194). -/
def Ppu.afterStatusRead (p : Ppu) : Ppu := { p with w := false, nmiOccurred := false, vblank := false }

/-- The increment of `v` after every $2007 access (R200). -/
def Ppu.advanceV (p : Ppu) : Ppu :=
  { p with v := (p.v + (if p.incrementMode then 32#16 else 1#16)) &&& 0x7FFF#16 }

/-- A $2007 read (R201): outside palette space the old buffer is the answer and the buffer is refilled;
in palette space the palette is the answer and the buffer is filled as the launch's
`PALETTE_READ_BUFFER` says. -/
def readPpuData (s : State) : Byte × State :=
  let a := s.ppu.v &&& 0x3FFF#16
  if a.ult 0x3F00#16 then
    (s.ppu.dataBuffer, s.mapPpu fun p => { p with dataBuffer := ppuRead a s }.advanceV)
  else
    let r := ppuRead a s
    let fill := match s.launch.paletteReadBuffer with
      | .underlying => ppuRead (a - 0x1000#16) s
      | .palette => r
    (r, s.mapPpu fun p => { p with dataBuffer := fill }.advanceV)

/-- `PpuRegRead(r)` for the register number `r` = 0..7: write-only registers read as 0 (R190). -/
def ppuRegRead (r : Nat) (s : State) : Byte × State :=
  match r with
  | 2 => (s.ppu.statusByte, s.mapPpu Ppu.afterStatusRead)
  | 4 => (s.ppu.oam.get s.ppu.oamAddr.toNat, s.mapPpu fun p => { p with oamAddr := p.oamAddr + 1#8 })
  | 7 => readPpuData s
  | _ => (0#8, s)

/-- The debug form of `ppuRegRead`: the same value, no change of state (R47). -/
def ppuRegPeek (r : Nat) (s : State) : Byte := (ppuRegRead r s).1

/-- A $2000 write: `ctrl`, the nametable bits of `t`, and, where the launch says so, the NMI raised by
switching `nmi_enable` on during vblank (R192). -/
def writePpuCtrl (v : Byte) (s : State) : State :=
  let raise := s.launch.nmiOnCtrlEnable && !s.ppu.nmiEnable && v.getLsbD 7 && s.ppu.vblank
  { s with
    ppu := { s.ppu with
      ctrl := v
      t := (s.ppu.t &&& 0x73FF#16) ||| (zext16 (v &&& 0x03#8) <<< 10) }
    bus := { s.bus with nmiSignal := s.bus.nmiSignal || raise } }

/-- A $2005 write (R198). -/
def Ppu.writeScroll (v : Byte) (p : Ppu) : Ppu :=
  if p.w then
    { p with
      t := (p.t &&& 0x0C1F#16) ||| (zext16 (v &&& 0x07#8) <<< 12) ||| (zext16 (v >>> 3) <<< 5)
      w := false }
  else
    { p with
      fineX := v.setWidth 3
      t := (p.t &&& 0x7FE0#16) ||| zext16 (v >>> 3)
      w := true }

/-- A $2006 write (R199): the second one copies `t` into `v` at once. -/
def Ppu.writeAddr (v : Byte) (p : Ppu) : Ppu :=
  if p.w then
    let t := (p.t &&& 0x7F00#16) ||| zext16 v
    { p with t := t, v := t, w := false }
  else
    { p with t := (p.t &&& 0x00FF#16) ||| (zext16 (v &&& 0x3F#8) <<< 8), w := true }

/-- A $2004 write (R197). -/
def Ppu.writeOamData (v : Byte) (p : Ppu) : Ppu :=
  { p with oam := p.oam.put p.oamAddr.toNat v, oamAddr := p.oamAddr + 1#8 }

/-- `PpuRegWrite(r, v)` for the register number `r` = 0..7 (R191). No write is gated by what the PPU is
doing (R203). -/
def ppuRegWrite (r : Nat) (v : Byte) (s : State) : State :=
  match r with
  | 0 => writePpuCtrl v s
  | 1 => s.mapPpu fun p => { p with mask := v }
  | 3 => s.mapPpu fun p => { p with oamAddr := v }
  | 4 => s.mapPpu (Ppu.writeOamData v)
  | 5 => s.mapPpu (Ppu.writeScroll v)
  | 6 => s.mapPpu (Ppu.writeAddr v)
  | 7 => (ppuWrite (s.ppu.v &&& 0x3FFF#16) v s).mapPpu Ppu.advanceV
  | _ => s

end Sys2Proof.Machine
end

