-- ==== Sys2Proof/Machine/Ops.lean ====
section
/-! DEFINITION. The operations the instructions share: the CPU bus (20_memory.md), the controller port,
word reads, the stack, taking an interrupt and returning from one, and reset. -/

namespace Sys2Proof.Machine

/-- Replace the CPU's part of the state. -/
def State.mapCpu (f : Cpu → Cpu) (s : State) : State := { s with cpu := f s.cpu }

/-- `pc <- target`. -/
def State.setPc (a : Addr) (s : State) : State := s.mapCpu fun c => { c with pc := a }

/-- `next <- cycl + n`: the CPU is busy for `n` cycles from the present one (R82, R84). -/
def State.busyFor (n : Nat) (s : State) : State := s.mapCpu fun c => { c with next := c.cycl + n }

/-! ### The controller port -/

/-- `InputDevice.read_and_shift_next_bit()`: the next answer of the input trace, and a free value past
its end (R204, R251; log entry 5). -/
def InputDevice.shift (d : InputDevice) : Byte × InputDevice :=
  match d.answers with
  | v :: rest => (v, { d with answers := rest })
  | [] => (Config.inputByte d.past, { d with past := d.past + 1 })

/-- `ControllerRead()`, a CPU read of $4016 (R204). -/
def controllerRead (s : State) : Byte × State :=
  (s.input.shift.1, { s with input := s.input.shift.2 })

/-- `ControllerWrite(v)`, a CPU write to $4016: `latch` on every write, then `snapshot_buttons` on a
falling edge of bit 0 (R205). -/
def controllerWrite (v : Byte) (s : State) : State :=
  let strobe := v.getLsbD 0
  let edge := s.bus.ctrlStrobe && !strobe
  { s with
    input := { s.input with
      calls := s.input.calls ++
        (InputCall.latch strobe :: if edge then [InputCall.snapshotButtons] else []) }
    bus := { s.bus with ctrlStrobe := strobe } }

/-! ### The CPU bus -/

/-- The RAM cell a CPU address below $2000 reaches: 2 KiB mirrored four times (R45). -/
def ramCell (a : Addr) : Nat := a.toNat % 2048

/-- The PPU register number of a CPU address in $2000-$3FFF (R45). -/
def ppuRegNumber (a : Addr) : Nat := a.toNat % 8

/-- Whether the cartridge answers a CPU address: $8000-$FFFF, and $4020-$7FFF when the launch says so
(R46, R50). -/
def cartridgeAnswers (l : Launch) (a : Addr) : Bool :=
  (0x8000#16).ule a || ((0x4020#16).ule a && l.cartLowWindow == .cartridge)

/-- `MemRead(addr, 1)`: the byte, and the state with the read's side effects (R46). -/
def busRead (a : Addr) (s : State) : Byte × State :=
  if a.ult 0x2000#16 then (s.bus.ram.get (ramCell a), s)
  else if a.ult 0x4000#16 then ppuRegRead (ppuRegNumber a) s
  else if a = 0x4016#16 then controllerRead s
  else if cartridgeAnswers s.launch a then (s.cart.cpuRead a, s)
  else (s.launch.openBusValue, s)

/-- `PeekRead(addr)`: the value a bus read would give, without its side effects; a debug read of $4016
is 0 (R47). -/
def peekRead (a : Addr) (s : State) : Byte :=
  if a = 0x4016#16 then 0#8 else (busRead a s).1

/-- `DmaArm(v)`, a write to $4014 (R62). -/
def dmaArm (v : Byte) (s : State) : State :=
  { s with bus := { s.bus with oamDmaCpu := true, oamDmaPpu := true, oamDmaAddr := mkAddr v 0#8 } }

/-- `MemWrite(addr, 1, v)` (R48). -/
def busWrite (a : Addr) (v : Byte) (s : State) : State :=
  if a.ult 0x2000#16 then { s with bus := { s.bus with ram := s.bus.ram.put (ramCell a) v } }
  else if a.ult 0x4000#16 then ppuRegWrite (ppuRegNumber a) v s
  else if a = 0x4014#16 then dmaArm v s
  else if a = 0x4016#16 then controllerWrite v s
  else if cartridgeAnswers s.launch a then { s with cart := s.cart.cpuWrite a v }
  else s

/-- `ReadWord(addr)`: low byte first, then the byte after it modulo 2^16 (R52). -/
def readWord (a : Addr) (s : State) : Addr × State :=
  let l := busRead a s
  let h := busRead (a + 1#16) l.2
  (mkAddr h.1 l.1, h.2)

/-- The address after `a` on the same page (R53). -/
def nextOnPage (a : Addr) : Addr := mkAddr (hi a) (lo a + 1#8)

/-- `ReadWordWrap(addr)`: the high byte comes from the same page (R53). -/
def readWordWrap (a : Addr) (s : State) : Addr × State :=
  let l := busRead a s
  let h := busRead (nextOnPage a) l.2
  (mkAddr h.1 l.1, h.2)

/-! ### The stack -/

/-- The address of the stack byte `sp` points at: `0x0100 | SP` (R21). -/
def stackAddr (sp : Byte) : Addr := mkAddr 0x01#8 sp

/-- `Push(v)`: store at `0x0100 | SP`, then decrement SP modulo 256 (R14, R21). -/
def push (v : Byte) (s : State) : State :=
  (busWrite (stackAddr s.cpu.sp) v s).mapCpu fun c => { c with sp := c.sp - 1#8 }

/-- `Pull()`: increment SP modulo 256, then read (R14, R21). -/
def pull (s : State) : Byte × State :=
  let s1 := s.mapCpu fun c => { c with sp := c.sp + 1#8 }
  busRead (stackAddr s1.cpu.sp) s1

/-- Push a 16-bit address, high byte first (R54). -/
def pushAddr (a : Addr) (s : State) : State := push (lo a) (push (hi a) s)

/-- Pull a 16-bit address, low byte first. -/
def pullAddr (s : State) : Addr × State :=
  let l := pull s
  let h := pull l.2
  (mkAddr h.1 l.1, h.2)

/-! ### Interrupts -/

/-- The reset vector's address (R51). -/
def resetVector : Addr := 0xFFFC#16

/-- The vector that IRQ and BRK share (R51, R233). -/
def irqVector : Addr := 0xFFFE#16

/-- The vector of an interrupt (R51, R233). -/
def Interrupt.vector (k : Interrupt) : Addr :=
  match k with
  | .nmi => 0xFFFA#16
  | .irq => irqVector

/-- The cycles an interrupt's entry takes (R238). -/
def Interrupt.entryCycles (k : Interrupt) : Nat :=
  match k with
  | .nmi => 8
  | .irq => 7

/-- What every entry shares, hardware interrupt or BRK: push the return address and a status byte, set
I, load PC from the vector (R155, R238). -/
def enterVia (ret : Addr) (status : Byte) (vector : Addr) (s : State) : State :=
  let s1 := (push status (pushAddr ret s)).mapCpu (Cpu.setI true)
  let target := readWord vector s1
  target.2.setPc target.1

/-- `EnterInterrupt(kind)` (R238): the pushed PC is the next instruction's address, the pushed status
has B1 = 0 and B2 = 1. -/
def enterInterrupt (k : Interrupt) (s : State) : State :=
  (enterVia s.cpu.pc s.cpu.pushedByInterrupt k.vector s).mapCpu fun c =>
    { c with next := c.next + k.entryCycles }

/-- What RTI does: pull the status with its B bits masked back in, then PC (R156, R239). -/
def returnFromInterrupt (s : State) : State :=
  let st := pull s
  let target := pullAddr (st.2.mapCpu fun c => { c with stat := statFromPulled st.1 })
  target.2.setPc target.1

/-! ### Reset -/

/-- `Reset()` on a running core: everything but the four memories goes to its reset value, and PC is
read from the reset vector (R253, D39). The collaborators and the launch stay, and so does the level
the host drives on `irq_line` (R29). -/
def resetCore (s : State) : State :=
  let s1 : State := { s with
    cpu := Cpu.atReset
    bus := { Bus.atReset with ram := s.bus.ram, irqLine := s.bus.irqLine }
    ppu := { Ppu.atReset with oam := s.ppu.oam, nt := s.ppu.nt, pal := s.ppu.pal } }
  let target := readWord resetVector s1
  target.2.setPc target.1

/-- The launch contents of the four memories: `RAM_INIT`, `OAM_INIT`, `NT_INIT`, `PAL_INIT` (R11, D5),
as cells. -/
structure InitContents where
  ram : List Host.Cell
  oam : List Host.Cell
  nt : List Host.Cell
  pal : List Host.Cell
  deriving DecidableEq, Repr

/-- Power-on: a reset with the memories at their launch contents, palette entries masked to 6 bits
(R253, D5). -/
def powerOn (launch : Launch) (cart : Cartridge) (input : InputDevice) (init : InitContents) : State :=
  resetCore {
    cpu := Cpu.atReset
    bus := { Bus.atReset with ram := Memory.ofCells 0xFF#8 init.ram }
    ppu := { Ppu.atReset with
      oam := Memory.ofCells 0xFF#8 init.oam
      nt := Memory.ofCells 0xFF#8 init.nt
      pal := Memory.ofCells 0x3F#8 init.pal }
    cart := cart
    input := input
    launch := launch }

end Sys2Proof.Machine
end

