-- ==== Sys2Proof/Syntax.lean ====
section
/-! DEFINITION. The instructions as syntax: one constructor for each of the 256 opcode bytes of R73
(spec/opcode_table.json), its operand the instruction's own bytes (R70, R72). Where several opcodes
share a mnemonic and a mode, the opcode byte is part of the constructor's name. -/

namespace Sys2Proof

/-- The 13 addressing modes (R70). -/
inductive Mode where
  | imp | acc | imm | zp | zpx | zpy | izx | izy | rel | abs | abx | aby | ind
  deriving DecidableEq, Repr

/-- An addressing mode together with its operand bytes (R70, R72). -/
inductive Operand where
  | imm (i : Byte)
  | zp (z : Byte)
  | zpx (z : Byte)
  | zpy (z : Byte)
  | izx (z : Byte)
  | izy (z : Byte)
  | rel (o : Byte)
  | abs (a : Addr)
  | abx (a : Addr)
  | aby (a : Addr)
  | ind (a : Addr)
  deriving DecidableEq, Repr

/-- One row of the opcode table for one instruction: the opcode byte, the mnemonic, the mode, the base
cycle count, the page-boundary-sensitive bit (R73, R74), and the operand bytes as they stand in memory. -/
structure Row where
  opcode : Byte
  mnemonic : String
  mode : Mode
  cycles : Nat
  pageCross : Bool
  operands : List Byte
  deriving DecidableEq, Repr

/-- The instructions, family by family. -/
inductive Instr where
  -- Load, store, transfer and stack instructions (41_load_store_transfer.md)
  | ldaIzx (z : Byte)
  | ldaZp (z : Byte)
  | ldaImm (i : Byte)
  | ldaAbs (a : Addr)
  | ldaIzy (z : Byte)
  | ldaZpx (z : Byte)
  | ldaAby (a : Addr)
  | ldaAbx (a : Addr)
  | ldxImm (i : Byte)
  | ldxZp (z : Byte)
  | ldxAbs (a : Addr)
  | ldxZpy (z : Byte)
  | ldxAby (a : Addr)
  | ldyImm (i : Byte)
  | ldyZp (z : Byte)
  | ldyAbs (a : Addr)
  | ldyZpx (z : Byte)
  | ldyAbx (a : Addr)
  | staIzx (z : Byte)
  | staZp (z : Byte)
  | staAbs (a : Addr)
  | staIzy (z : Byte)
  | staZpx (z : Byte)
  | staAby (a : Addr)
  | staAbx (a : Addr)
  | stxZp (z : Byte)
  | stxAbs (a : Addr)
  | stxZpy (z : Byte)
  | styZp (z : Byte)
  | styAbs (a : Addr)
  | styZpx (z : Byte)
  | tax
  | tay
  | txa
  | tya
  | tsx
  | txs
  | pha
  | php
  | pla
  | plp
  -- Arithmetic, logic, compare, increment and shift instructions (42_arith_logic.md)
  | adcIzx (z : Byte)
  | adcZp (z : Byte)
  | adcImm (i : Byte)
  | adcAbs (a : Addr)
  | adcIzy (z : Byte)
  | adcZpx (z : Byte)
  | adcAby (a : Addr)
  | adcAbx (a : Addr)
  | sbcIzx (z : Byte)
  | sbcZp (z : Byte)
  | sbcImm (i : Byte)
  | sbcAbs (a : Addr)
  | sbcIzy (z : Byte)
  | sbcZpx (z : Byte)
  | sbcAby (a : Addr)
  | sbcAbx (a : Addr)
  | andIzx (z : Byte)
  | andZp (z : Byte)
  | andImm (i : Byte)
  | andAbs (a : Addr)
  | andIzy (z : Byte)
  | andZpx (z : Byte)
  | andAby (a : Addr)
  | andAbx (a : Addr)
  | oraIzx (z : Byte)
  | oraZp (z : Byte)
  | oraImm (i : Byte)
  | oraAbs (a : Addr)
  | oraIzy (z : Byte)
  | oraZpx (z : Byte)
  | oraAby (a : Addr)
  | oraAbx (a : Addr)
  | eorIzx (z : Byte)
  | eorZp (z : Byte)
  | eorImm (i : Byte)
  | eorAbs (a : Addr)
  | eorIzy (z : Byte)
  | eorZpx (z : Byte)
  | eorAby (a : Addr)
  | eorAbx (a : Addr)
  | bitZp (z : Byte)
  | bitAbs (a : Addr)
  | cmpIzx (z : Byte)
  | cmpZp (z : Byte)
  | cmpImm (i : Byte)
  | cmpAbs (a : Addr)
  | cmpIzy (z : Byte)
  | cmpZpx (z : Byte)
  | cmpAby (a : Addr)
  | cmpAbx (a : Addr)
  | cpxImm (i : Byte)
  | cpxZp (z : Byte)
  | cpxAbs (a : Addr)
  | cpyImm (i : Byte)
  | cpyZp (z : Byte)
  | cpyAbs (a : Addr)
  | incZp (z : Byte)
  | incAbs (a : Addr)
  | incZpx (z : Byte)
  | incAbx (a : Addr)
  | decZp (z : Byte)
  | decAbs (a : Addr)
  | decZpx (z : Byte)
  | decAbx (a : Addr)
  | inx
  | iny
  | dex
  | dey
  | aslZp (z : Byte)
  | aslAcc
  | aslAbs (a : Addr)
  | aslZpx (z : Byte)
  | aslAbx (a : Addr)
  | lsrZp (z : Byte)
  | lsrAcc
  | lsrAbs (a : Addr)
  | lsrZpx (z : Byte)
  | lsrAbx (a : Addr)
  | rolZp (z : Byte)
  | rolAcc
  | rolAbs (a : Addr)
  | rolZpx (z : Byte)
  | rolAbx (a : Addr)
  | rorZp (z : Byte)
  | rorAcc
  | rorAbs (a : Addr)
  | rorZpx (z : Byte)
  | rorAbx (a : Addr)
  -- Branches, jumps, subroutines, interrupt return and flags (43_control_flags.md)
  | bpl (o : Byte)
  | bmi (o : Byte)
  | bvc (o : Byte)
  | bvs (o : Byte)
  | bcc (o : Byte)
  | bcs (o : Byte)
  | bne (o : Byte)
  | beq (o : Byte)
  | jmpAbs (a : Addr)
  | jmpInd (a : Addr)
  | jsrAbs (a : Addr)
  | rts
  | brk
  | rti
  | clc
  | sec
  | cli
  | sei
  | clv
  | cld
  | sed
  | nop
  -- Undocumented opcodes (44_undocumented.md)
  | sbcImmEB (i : Byte)
  | nopZp04 (z : Byte)
  | nopAbs (a : Addr)
  | nopZpx14 (z : Byte)
  | nop1A
  | nopAbx1C (a : Addr)
  | nopZpx34 (z : Byte)
  | nop3A
  | nopAbx3C (a : Addr)
  | nopZp44 (z : Byte)
  | nopZpx54 (z : Byte)
  | nop5A
  | nopAbx5C (a : Addr)
  | nopZp64 (z : Byte)
  | nopZpx74 (z : Byte)
  | nop7A
  | nopAbx7C (a : Addr)
  | nopImm80 (i : Byte)
  | nopImm82 (i : Byte)
  | nopImm89 (i : Byte)
  | nopImmC2 (i : Byte)
  | nopZpxD4 (z : Byte)
  | nopDA
  | nopAbxDC (a : Addr)
  | nopImmE2 (i : Byte)
  | nopZpxF4 (z : Byte)
  | nopFA
  | nopAbxFC (a : Addr)
  | sloIzx (z : Byte)
  | sloZp (z : Byte)
  | sloAbs (a : Addr)
  | sloIzy (z : Byte)
  | sloZpx (z : Byte)
  | sloAby (a : Addr)
  | sloAbx (a : Addr)
  | rlaIzx (z : Byte)
  | rlaZp (z : Byte)
  | rlaAbs (a : Addr)
  | rlaIzy (z : Byte)
  | rlaZpx (z : Byte)
  | rlaAby (a : Addr)
  | rlaAbx (a : Addr)
  | sreIzx (z : Byte)
  | sreZp (z : Byte)
  | sreAbs (a : Addr)
  | sreIzy (z : Byte)
  | sreZpx (z : Byte)
  | sreAby (a : Addr)
  | sreAbx (a : Addr)
  | rraIzx (z : Byte)
  | rraZp (z : Byte)
  | rraAbs (a : Addr)
  | rraIzy (z : Byte)
  | rraZpx (z : Byte)
  | rraAby (a : Addr)
  | rraAbx (a : Addr)
  | dcpIzx (z : Byte)
  | dcpZp (z : Byte)
  | dcpAbs (a : Addr)
  | dcpIzy (z : Byte)
  | dcpZpx (z : Byte)
  | dcpAby (a : Addr)
  | dcpAbx (a : Addr)
  | isbIzx (z : Byte)
  | isbZp (z : Byte)
  | isbAbs (a : Addr)
  | isbIzy (z : Byte)
  | isbZpx (z : Byte)
  | isbAby (a : Addr)
  | isbAbx (a : Addr)
  | laxIzx (z : Byte)
  | laxZp (z : Byte)
  | laxAbs (a : Addr)
  | laxIzy (z : Byte)
  | laxZpy (z : Byte)
  | laxAby (a : Addr)
  | saxIzx (z : Byte)
  | saxZp (z : Byte)
  | saxAbs (a : Addr)
  | saxZpy (z : Byte)
  | aacImm0B (i : Byte)
  | aacImm2B (i : Byte)
  | asrImm (i : Byte)
  | arrImm (i : Byte)
  | axsImm (i : Byte)
  | aneImm (i : Byte)
  | lxaImm (i : Byte)
  | shaIzy (z : Byte)
  | shaAby (a : Addr)
  | shxAby (a : Addr)
  | shyAbx (a : Addr)
  | tasAby (a : Addr)
  | lasAby (a : Addr)
  | kil02
  | kil12
  | kil22
  | kil32
  | kil42
  | kil52
  | kil62
  | kil72
  | kil92
  | kilB2
  | kilD2
  | kilF2
  deriving DecidableEq, Repr

end Sys2Proof
end

