-- ==== Sys2Proof/Machine/Operands.lean ====
section
/-! DEFINITION. The addressing modes (40_cpu_step.md section 2) and the operand access classes (R102).
An instruction's operand bytes have been fetched and PC points after them when its meaning runs (R20;
log entry 11). -/

namespace Sys2Proof.Machine

/-- What the resolver gives: the effective address, the extra cycles, and the state after the pointer
reads of the indirect modes (R88-R100). -/
structure Resolved where
  ea : Addr
  extra : Nat
  state : State
  deriving DecidableEq, Repr

/-- The page-cross cycle: 1 when the opcode is page-sensitive and the low byte of the computed address
is below the index (R101). -/
def pageExtra (sensitive : Bool) (ea : Addr) (index : Byte) : Nat :=
  if sensitive && (lo ea).ult index then 1 else 0

/-- `Resolve(mode, pcs)`, one arm per mode with an operand byte: imm R90 (PC is already past the byte),
zp R91, zpx R92, zpy R93, izx R98, izy R99, rel R100, abs R94, abx R95, aby R96, ind R97. -/
def resolve (o : Operand) (sensitive : Bool) (s : State) : Resolved :=
  match o with
  | .imm _ => ⟨s.cpu.pc - 1#16, 0, s⟩
  | .zp z => ⟨zext16 z, 0, s⟩
  | .zpx z => ⟨zext16 (z + s.cpu.x), 0, s⟩
  | .zpy z => ⟨zext16 (z + s.cpu.y), 0, s⟩
  | .izx z =>
    let p := readWordWrap (zext16 (z + s.cpu.x)) s
    ⟨p.1, 0, p.2⟩
  | .izy z =>
    let p := readWordWrap (zext16 z) s
    let ea := p.1 + zext16 s.cpu.y
    ⟨ea, pageExtra sensitive ea s.cpu.y, p.2⟩
  | .rel d => ⟨s.cpu.pc + sext16 d, 0, s⟩
  | .abs a => ⟨a, 0, s⟩
  | .abx a =>
    let ea := a + zext16 s.cpu.x
    ⟨ea, pageExtra sensitive ea s.cpu.x, s⟩
  | .aby a =>
    let ea := a + zext16 s.cpu.y
    ⟨ea, pageExtra sensitive ea s.cpu.y, s⟩
  | .ind a =>
    let p := readWordWrap a s
    ⟨p.1, 0, p.2⟩

/-- The operand byte `M` of a Read or Read-modify-write instruction: one bus read at `ea`; for an
immediate that read was the fetch of the byte. -/
def operandByte (o : Operand) (r : Resolved) : Byte × State :=
  match o with
  | .imm i => (i, r.state)
  | _ => busRead r.ea r.state

/-- The Read class: exactly one read of the operand, then the registers change by `f M` (R102). -/
def readClass (o : Operand) (sensitive : Bool) (cycles : Nat) (f : Byte → Cpu → Cpu) (s : State) :
    Result :=
  let r := resolve o sensitive s
  let m := operandByte o r
  .next ((m.2.mapCpu (f m.1)).busyFor (cycles + r.extra))

/-- The Write class: exactly one write at `ea` and no read of it; the value may depend on `ea` and the
registers. No store is page-sensitive (R74, R102). -/
def writeClass (o : Operand) (cycles : Nat) (value : Addr → Cpu → Byte) (s : State) : Result :=
  let r := resolve o false s
  .next ((busWrite r.ea (value r.ea r.state.cpu) r.state).busyFor cycles)

/-- The Read-modify-write class: one read of `M` at `ea`, one write of `g M` there, then the registers
change by `f M (g M)`. None is page-sensitive (R74, R102). -/
def modifyClass (o : Operand) (cycles : Nat) (g : Byte → Cpu → Byte) (f : Byte → Byte → Cpu → Cpu)
    (s : State) : Result :=
  let r := resolve o false s
  let m := busRead r.ea r.state
  let res := g m.1 m.2.cpu
  .next (((busWrite r.ea res m.2).mapCpu (f m.1 res)).busyFor cycles)

/-- The Implied and Accumulator classes: only registers change (R102). -/
def impliedClass (cycles : Nat) (f : Cpu → Cpu) (s : State) : Result :=
  .next ((s.mapCpu f).busyFor cycles)

/-- The shared body of the eight branches: 2 cycles, 1 more when taken, 1 more when the target is on
another page than the next instruction (R143). -/
def branchIf (cond : Cpu → Bool) (d : Byte) (s : State) : Result :=
  let r := resolve (.rel d) false s
  if cond s.cpu then
    .next ((s.setPc r.ea).busyFor (3 + (if hi s.cpu.pc = hi r.ea then 0 else 1)))
  else .next (s.busyFor 2)

/-- `H1`: the high byte of the address before indexing, plus 1 (R182). -/
def baseHighPlusOne (ea : Addr) (index : Byte) : Byte := hi (ea - zext16 index) + 1#8

/-- The eight unstable opcodes: refused under `UNSTABLE_POLICY = refuse`, and otherwise the meaning
`run` (R182; log entry 2). -/
def unstable (opcode : Byte) (s : State) (run : Result) : Result :=
  match s.launch.unstablePolicy with
  | .refuse => .refused (.unstableOpcode opcode)
  | .nmos => run

end Sys2Proof.Machine
end

