-- ==== Sys2Proof/Machine/ArithLogic.lean ====
section
/-! DEFINITION. Arithmetic, logic, compare, increment and shift instructions (42_arith_logic.md): the meaning of each instruction, one definition an opcode (R124-R142). -/

namespace Sys2Proof.Machine

/-- `A <- A & M; SetZN(A)` (R126). -/
def Cpu.andA (m : Byte) (c : Cpu) : Cpu := c.loadA (c.a &&& m)

/-- `A <- A | M; SetZN(A)` (R127). -/
def Cpu.orA (m : Byte) (c : Cpu) : Cpu := c.loadA (c.a ||| m)

/-- `A <- A ^ M; SetZN(A)` (R128). -/
def Cpu.eorA (m : Byte) (c : Cpu) : Cpu := c.loadA (c.a ^^^ m)

/-- `Compare(A, M)` (R130). -/
def Cpu.cmpA (m : Byte) (c : Cpu) : Cpu := c.compare c.a m

/-- `Compare(X, M)` (R131). -/
def Cpu.cmpX (m : Byte) (c : Cpu) : Cpu := c.compare c.x m

/-- `Compare(Y, M)` (R132). -/
def Cpu.cmpY (m : Byte) (c : Cpu) : Cpu := c.compare c.y m

/-- `INC` on memory (R133). -/
def incMem (o : Operand) (cycles : Nat) (s : State) : Result :=
  modifyClass o cycles (fun m _ => m + 1#8) (fun _ res c => c.setZN res) s

/-- `DEC` on memory (R134). -/
def decMem (o : Operand) (cycles : Nat) (s : State) : Result :=
  modifyClass o cycles (fun m _ => m - 1#8) (fun _ res c => c.setZN res) s

/-- `ASL` on memory (R139). -/
def aslMem (o : Operand) (cycles : Nat) (s : State) : Result :=
  modifyClass o cycles (fun m _ => shiftLeft m) (fun m res c => c.shifted (m.getLsbD 7) res) s

/-- `LSR` on memory (R140). -/
def lsrMem (o : Operand) (cycles : Nat) (s : State) : Result :=
  modifyClass o cycles (fun m _ => shiftRight m) (fun m res c => c.shifted (m.getLsbD 0) res) s

/-- `ROL` on memory (R141). -/
def rolMem (o : Operand) (cycles : Nat) (s : State) : Result :=
  modifyClass o cycles (fun m c => rotateLeft m c.c) (fun m res c => c.shifted (m.getLsbD 7) res) s

/-- `ROR` on memory (R142). -/
def rorMem (o : Operand) (cycles : Nat) (s : State) : Result :=
  modifyClass o cycles (fun m c => rotateRight m c.c) (fun m res c => c.shifted (m.getLsbD 0) res) s

/-- The accumulator form of a shift: A takes `res`, C the bit shifted out (R139-R142). -/
def Cpu.shiftA (out : Bool) (res : Byte) (c : Cpu) : Cpu := { c with a := res }.shifted out res

/-- `ADC ($nn,X)`, opcode $61 (R124). -/
def execAdcIzx (z : Byte) (s : State) : Result := readClass (.izx z) false 6 Cpu.addWithCarry s

/-- `ADC $nn`, opcode $65 (R124). -/
def execAdcZp (z : Byte) (s : State) : Result := readClass (.zp z) false 3 Cpu.addWithCarry s

/-- `ADC #$nn`, opcode $69 (R124). -/
def execAdcImm (i : Byte) (s : State) : Result := readClass (.imm i) false 2 Cpu.addWithCarry s

/-- `ADC $nnnn`, opcode $6D (R124). -/
def execAdcAbs (a : Addr) (s : State) : Result := readClass (.abs a) false 4 Cpu.addWithCarry s

/-- `ADC ($nn),Y`, opcode $71 (R124). -/
def execAdcIzy (z : Byte) (s : State) : Result := readClass (.izy z) true 5 Cpu.addWithCarry s

/-- `ADC $nn,X`, opcode $75 (R124). -/
def execAdcZpx (z : Byte) (s : State) : Result := readClass (.zpx z) false 4 Cpu.addWithCarry s

/-- `ADC $nnnn,Y`, opcode $79 (R124). -/
def execAdcAby (a : Addr) (s : State) : Result := readClass (.aby a) true 4 Cpu.addWithCarry s

/-- `ADC $nnnn,X`, opcode $7D (R124). -/
def execAdcAbx (a : Addr) (s : State) : Result := readClass (.abx a) true 4 Cpu.addWithCarry s

/-- `SBC ($nn,X)`, opcode $E1 (R125). -/
def execSbcIzx (z : Byte) (s : State) : Result := readClass (.izx z) false 6 Cpu.subWithBorrow s

/-- `SBC $nn`, opcode $E5 (R125). -/
def execSbcZp (z : Byte) (s : State) : Result := readClass (.zp z) false 3 Cpu.subWithBorrow s

/-- `SBC #$nn`, opcode $E9 (R125). -/
def execSbcImm (i : Byte) (s : State) : Result := readClass (.imm i) false 2 Cpu.subWithBorrow s

/-- `SBC $nnnn`, opcode $ED (R125). -/
def execSbcAbs (a : Addr) (s : State) : Result := readClass (.abs a) false 4 Cpu.subWithBorrow s

/-- `SBC ($nn),Y`, opcode $F1 (R125). -/
def execSbcIzy (z : Byte) (s : State) : Result := readClass (.izy z) true 5 Cpu.subWithBorrow s

/-- `SBC $nn,X`, opcode $F5 (R125). -/
def execSbcZpx (z : Byte) (s : State) : Result := readClass (.zpx z) false 4 Cpu.subWithBorrow s

/-- `SBC $nnnn,Y`, opcode $F9 (R125). -/
def execSbcAby (a : Addr) (s : State) : Result := readClass (.aby a) true 4 Cpu.subWithBorrow s

/-- `SBC $nnnn,X`, opcode $FD (R125). -/
def execSbcAbx (a : Addr) (s : State) : Result := readClass (.abx a) true 4 Cpu.subWithBorrow s

/-- `AND ($nn,X)`, opcode $21 (R126). -/
def execAndIzx (z : Byte) (s : State) : Result := readClass (.izx z) false 6 Cpu.andA s

/-- `AND $nn`, opcode $25 (R126). -/
def execAndZp (z : Byte) (s : State) : Result := readClass (.zp z) false 3 Cpu.andA s

/-- `AND #$nn`, opcode $29 (R126). -/
def execAndImm (i : Byte) (s : State) : Result := readClass (.imm i) false 2 Cpu.andA s

/-- `AND $nnnn`, opcode $2D (R126). -/
def execAndAbs (a : Addr) (s : State) : Result := readClass (.abs a) false 4 Cpu.andA s

/-- `AND ($nn),Y`, opcode $31 (R126). -/
def execAndIzy (z : Byte) (s : State) : Result := readClass (.izy z) true 5 Cpu.andA s

/-- `AND $nn,X`, opcode $35 (R126). -/
def execAndZpx (z : Byte) (s : State) : Result := readClass (.zpx z) false 4 Cpu.andA s

/-- `AND $nnnn,Y`, opcode $39 (R126). -/
def execAndAby (a : Addr) (s : State) : Result := readClass (.aby a) true 4 Cpu.andA s

/-- `AND $nnnn,X`, opcode $3D (R126). -/
def execAndAbx (a : Addr) (s : State) : Result := readClass (.abx a) true 4 Cpu.andA s

/-- `ORA ($nn,X)`, opcode $01 (R127). -/
def execOraIzx (z : Byte) (s : State) : Result := readClass (.izx z) false 6 Cpu.orA s

/-- `ORA $nn`, opcode $05 (R127). -/
def execOraZp (z : Byte) (s : State) : Result := readClass (.zp z) false 3 Cpu.orA s

/-- `ORA #$nn`, opcode $09 (R127). -/
def execOraImm (i : Byte) (s : State) : Result := readClass (.imm i) false 2 Cpu.orA s

/-- `ORA $nnnn`, opcode $0D (R127). -/
def execOraAbs (a : Addr) (s : State) : Result := readClass (.abs a) false 4 Cpu.orA s

/-- `ORA ($nn),Y`, opcode $11 (R127). -/
def execOraIzy (z : Byte) (s : State) : Result := readClass (.izy z) true 5 Cpu.orA s

/-- `ORA $nn,X`, opcode $15 (R127). -/
def execOraZpx (z : Byte) (s : State) : Result := readClass (.zpx z) false 4 Cpu.orA s

/-- `ORA $nnnn,Y`, opcode $19 (R127). -/
def execOraAby (a : Addr) (s : State) : Result := readClass (.aby a) true 4 Cpu.orA s

/-- `ORA $nnnn,X`, opcode $1D (R127). -/
def execOraAbx (a : Addr) (s : State) : Result := readClass (.abx a) true 4 Cpu.orA s

/-- `EOR ($nn,X)`, opcode $41 (R128). -/
def execEorIzx (z : Byte) (s : State) : Result := readClass (.izx z) false 6 Cpu.eorA s

/-- `EOR $nn`, opcode $45 (R128). -/
def execEorZp (z : Byte) (s : State) : Result := readClass (.zp z) false 3 Cpu.eorA s

/-- `EOR #$nn`, opcode $49 (R128). -/
def execEorImm (i : Byte) (s : State) : Result := readClass (.imm i) false 2 Cpu.eorA s

/-- `EOR $nnnn`, opcode $4D (R128). -/
def execEorAbs (a : Addr) (s : State) : Result := readClass (.abs a) false 4 Cpu.eorA s

/-- `EOR ($nn),Y`, opcode $51 (R128). -/
def execEorIzy (z : Byte) (s : State) : Result := readClass (.izy z) true 5 Cpu.eorA s

/-- `EOR $nn,X`, opcode $55 (R128). -/
def execEorZpx (z : Byte) (s : State) : Result := readClass (.zpx z) false 4 Cpu.eorA s

/-- `EOR $nnnn,Y`, opcode $59 (R128). -/
def execEorAby (a : Addr) (s : State) : Result := readClass (.aby a) true 4 Cpu.eorA s

/-- `EOR $nnnn,X`, opcode $5D (R128). -/
def execEorAbx (a : Addr) (s : State) : Result := readClass (.abx a) true 4 Cpu.eorA s

/-- `BIT $nn`, opcode $24 (R129). -/
def execBitZp (z : Byte) (s : State) : Result := readClass (.zp z) false 3 Cpu.bitTest s

/-- `BIT $nnnn`, opcode $2C (R129). -/
def execBitAbs (a : Addr) (s : State) : Result := readClass (.abs a) false 4 Cpu.bitTest s

/-- `CMP ($nn,X)`, opcode $C1 (R130). -/
def execCmpIzx (z : Byte) (s : State) : Result := readClass (.izx z) false 6 Cpu.cmpA s

/-- `CMP $nn`, opcode $C5 (R130). -/
def execCmpZp (z : Byte) (s : State) : Result := readClass (.zp z) false 3 Cpu.cmpA s

/-- `CMP #$nn`, opcode $C9 (R130). -/
def execCmpImm (i : Byte) (s : State) : Result := readClass (.imm i) false 2 Cpu.cmpA s

/-- `CMP $nnnn`, opcode $CD (R130). -/
def execCmpAbs (a : Addr) (s : State) : Result := readClass (.abs a) false 4 Cpu.cmpA s

/-- `CMP ($nn),Y`, opcode $D1 (R130). -/
def execCmpIzy (z : Byte) (s : State) : Result := readClass (.izy z) true 5 Cpu.cmpA s

/-- `CMP $nn,X`, opcode $D5 (R130). -/
def execCmpZpx (z : Byte) (s : State) : Result := readClass (.zpx z) false 4 Cpu.cmpA s

/-- `CMP $nnnn,Y`, opcode $D9 (R130). -/
def execCmpAby (a : Addr) (s : State) : Result := readClass (.aby a) true 4 Cpu.cmpA s

/-- `CMP $nnnn,X`, opcode $DD (R130). -/
def execCmpAbx (a : Addr) (s : State) : Result := readClass (.abx a) true 4 Cpu.cmpA s

/-- `CPX #$nn`, opcode $E0 (R131). -/
def execCpxImm (i : Byte) (s : State) : Result := readClass (.imm i) false 2 Cpu.cmpX s

/-- `CPX $nn`, opcode $E4 (R131). -/
def execCpxZp (z : Byte) (s : State) : Result := readClass (.zp z) false 3 Cpu.cmpX s

/-- `CPX $nnnn`, opcode $EC (R131). -/
def execCpxAbs (a : Addr) (s : State) : Result := readClass (.abs a) false 4 Cpu.cmpX s

/-- `CPY #$nn`, opcode $C0 (R132). -/
def execCpyImm (i : Byte) (s : State) : Result := readClass (.imm i) false 2 Cpu.cmpY s

/-- `CPY $nn`, opcode $C4 (R132). -/
def execCpyZp (z : Byte) (s : State) : Result := readClass (.zp z) false 3 Cpu.cmpY s

/-- `CPY $nnnn`, opcode $CC (R132). -/
def execCpyAbs (a : Addr) (s : State) : Result := readClass (.abs a) false 4 Cpu.cmpY s

/-- `INC $nn`, opcode $E6 (R133). -/
def execIncZp (z : Byte) (s : State) : Result := incMem (.zp z) 5 s

/-- `INC $nnnn`, opcode $EE (R133). -/
def execIncAbs (a : Addr) (s : State) : Result := incMem (.abs a) 6 s

/-- `INC $nn,X`, opcode $F6 (R133). -/
def execIncZpx (z : Byte) (s : State) : Result := incMem (.zpx z) 6 s

/-- `INC $nnnn,X`, opcode $FE (R133). -/
def execIncAbx (a : Addr) (s : State) : Result := incMem (.abx a) 7 s

/-- `DEC $nn`, opcode $C6 (R134). -/
def execDecZp (z : Byte) (s : State) : Result := decMem (.zp z) 5 s

/-- `DEC $nnnn`, opcode $CE (R134). -/
def execDecAbs (a : Addr) (s : State) : Result := decMem (.abs a) 6 s

/-- `DEC $nn,X`, opcode $D6 (R134). -/
def execDecZpx (z : Byte) (s : State) : Result := decMem (.zpx z) 6 s

/-- `DEC $nnnn,X`, opcode $DE (R134). -/
def execDecAbx (a : Addr) (s : State) : Result := decMem (.abx a) 7 s

/-- `INX`, opcode $E8 (R135). -/
def execInx (s : State) : Result := impliedClass 2 (fun c => c.loadX (c.x + 1#8)) s

/-- `INY`, opcode $C8 (R136). -/
def execIny (s : State) : Result := impliedClass 2 (fun c => c.loadY (c.y + 1#8)) s

/-- `DEX`, opcode $CA (R137). -/
def execDex (s : State) : Result := impliedClass 2 (fun c => c.loadX (c.x - 1#8)) s

/-- `DEY`, opcode $88 (R138). -/
def execDey (s : State) : Result := impliedClass 2 (fun c => c.loadY (c.y - 1#8)) s

/-- `ASL $nn`, opcode $06 (R139). -/
def execAslZp (z : Byte) (s : State) : Result := aslMem (.zp z) 5 s

/-- `ASL A`, opcode $0A (R139). -/
def execAslAcc (s : State) : Result :=
  impliedClass 2 (fun c => c.shiftA (c.a.getLsbD 7) (shiftLeft c.a)) s

/-- `ASL $nnnn`, opcode $0E (R139). -/
def execAslAbs (a : Addr) (s : State) : Result := aslMem (.abs a) 6 s

/-- `ASL $nn,X`, opcode $16 (R139). -/
def execAslZpx (z : Byte) (s : State) : Result := aslMem (.zpx z) 6 s

/-- `ASL $nnnn,X`, opcode $1E (R139). -/
def execAslAbx (a : Addr) (s : State) : Result := aslMem (.abx a) 7 s

/-- `LSR $nn`, opcode $46 (R140). -/
def execLsrZp (z : Byte) (s : State) : Result := lsrMem (.zp z) 5 s

/-- `LSR A`, opcode $4A (R140). -/
def execLsrAcc (s : State) : Result :=
  impliedClass 2 (fun c => c.shiftA (c.a.getLsbD 0) (shiftRight c.a)) s

/-- `LSR $nnnn`, opcode $4E (R140). -/
def execLsrAbs (a : Addr) (s : State) : Result := lsrMem (.abs a) 6 s

/-- `LSR $nn,X`, opcode $56 (R140). -/
def execLsrZpx (z : Byte) (s : State) : Result := lsrMem (.zpx z) 6 s

/-- `LSR $nnnn,X`, opcode $5E (R140). -/
def execLsrAbx (a : Addr) (s : State) : Result := lsrMem (.abx a) 7 s

/-- `ROL $nn`, opcode $26 (R141). -/
def execRolZp (z : Byte) (s : State) : Result := rolMem (.zp z) 5 s

/-- `ROL A`, opcode $2A (R141). -/
def execRolAcc (s : State) : Result :=
  impliedClass 2 (fun c => c.shiftA (c.a.getLsbD 7) (rotateLeft c.a c.c)) s

/-- `ROL $nnnn`, opcode $2E (R141). -/
def execRolAbs (a : Addr) (s : State) : Result := rolMem (.abs a) 6 s

/-- `ROL $nn,X`, opcode $36 (R141). -/
def execRolZpx (z : Byte) (s : State) : Result := rolMem (.zpx z) 6 s

/-- `ROL $nnnn,X`, opcode $3E (R141). -/
def execRolAbx (a : Addr) (s : State) : Result := rolMem (.abx a) 7 s

/-- `ROR $nn`, opcode $66 (R142). -/
def execRorZp (z : Byte) (s : State) : Result := rorMem (.zp z) 5 s

/-- `ROR A`, opcode $6A (R142). -/
def execRorAcc (s : State) : Result :=
  impliedClass 2 (fun c => c.shiftA (c.a.getLsbD 0) (rotateRight c.a c.c)) s

/-- `ROR $nnnn`, opcode $6E (R142). -/
def execRorAbs (a : Addr) (s : State) : Result := rorMem (.abs a) 6 s

/-- `ROR $nn,X`, opcode $76 (R142). -/
def execRorZpx (z : Byte) (s : State) : Result := rorMem (.zpx z) 6 s

/-- `ROR $nnnn,X`, opcode $7E (R142). -/
def execRorAbx (a : Addr) (s : State) : Result := rorMem (.abx a) 7 s

end Sys2Proof.Machine
end

