-- ==== Sys2Proof/Machine/ControlFlags.lean ====
section
/-! DEFINITION. Branches, jumps, subroutines, interrupt return and flags (43_control_flags.md): the meaning of each instruction, one definition an opcode (R144-R164). -/

namespace Sys2Proof.Machine

/-- `JMP`: PC takes the resolved address, which is not read (R152). -/
def jump (o : Operand) (cycles : Nat) (s : State) : Result :=
  let r := resolve o false s
  .next ((r.state.setPc r.ea).busyFor cycles)

/-- `BPL $nnnn`, opcode $10 (R144). -/
def execBpl (o : Byte) (s : State) : Result := branchIf (fun c => !c.n) o s

/-- `BMI $nnnn`, opcode $30 (R145). -/
def execBmi (o : Byte) (s : State) : Result := branchIf (fun c => c.n) o s

/-- `BVC $nnnn`, opcode $50 (R146). -/
def execBvc (o : Byte) (s : State) : Result := branchIf (fun c => !c.v) o s

/-- `BVS $nnnn`, opcode $70 (R147). -/
def execBvs (o : Byte) (s : State) : Result := branchIf (fun c => c.v) o s

/-- `BCC $nnnn`, opcode $90 (R148). -/
def execBcc (o : Byte) (s : State) : Result := branchIf (fun c => !c.c) o s

/-- `BCS $nnnn`, opcode $B0 (R149). -/
def execBcs (o : Byte) (s : State) : Result := branchIf (fun c => c.c) o s

/-- `BNE $nnnn`, opcode $D0 (R150). -/
def execBne (o : Byte) (s : State) : Result := branchIf (fun c => !c.z) o s

/-- `BEQ $nnnn`, opcode $F0 (R151). -/
def execBeq (o : Byte) (s : State) : Result := branchIf (fun c => c.z) o s

/-- `JMP $nnnn`, opcode $4C (R152). -/
def execJmpAbs (a : Addr) (s : State) : Result := jump (.abs a) 3 s

/-- `JMP ($nnnn)`, opcode $6C (R152). -/
def execJmpInd (a : Addr) (s : State) : Result := jump (.ind a) 5 s

/-- `JSR $nnnn`, opcode $20 (R153). -/
def execJsrAbs (a : Addr) (s : State) : Result :=
  .next (((pushAddr (s.cpu.pc - 1#16) s).setPc a).busyFor 6)

/-- `RTS`, opcode $60 (R154). -/
def execRts (s : State) : Result := .next (((pullAddr s).2.setPc ((pullAddr s).1 + 1#16)).busyFor 6)

/-- `BRK`, opcode $00 (R155). -/
def execBrk (s : State) : Result :=
  .next ((enterVia (s.cpu.pc + 1#16) s.cpu.pushedByBreak irqVector s).busyFor 7)

/-- `RTI`, opcode $40 (R156). -/
def execRti (s : State) : Result := .next ((returnFromInterrupt s).busyFor 6)

/-- `CLC`, opcode $18 (R157). -/
def execClc (s : State) : Result := impliedClass 2 (Cpu.setC false) s

/-- `SEC`, opcode $38 (R158). -/
def execSec (s : State) : Result := impliedClass 2 (Cpu.setC true) s

/-- `CLI`, opcode $58 (R159). -/
def execCli (s : State) : Result := impliedClass 2 (Cpu.setI false) s

/-- `SEI`, opcode $78 (R160). -/
def execSei (s : State) : Result := impliedClass 2 (Cpu.setI true) s

/-- `CLV`, opcode $B8 (R161). -/
def execClv (s : State) : Result := impliedClass 2 (Cpu.setV false) s

/-- `CLD`, opcode $D8 (R162). -/
def execCld (s : State) : Result := impliedClass 2 (Cpu.setD false) s

/-- `SED`, opcode $F8 (R163). -/
def execSed (s : State) : Result := impliedClass 2 (Cpu.setD true) s

/-- `NOP`, opcode $EA (R164). -/
def execNop (s : State) : Result := .next (s.busyFor 2)

end Sys2Proof.Machine
end

