-- ==== Sys2Proof/Machine/LoadStore.lean ====
section
/-! DEFINITION. Load, store, transfer and stack instructions (41_load_store_transfer.md): the meaning of each instruction, one definition an opcode (R104-R119). -/

namespace Sys2Proof.Machine

/-- `PLP`: STAT takes a pulled byte with its B bits masked back in (R119). -/
def Cpu.loadStat (v : Byte) (c : Cpu) : Cpu := { c with stat := statFromPulled v }

/-- `LDA ($nn,X)`, opcode $A1 (R104). -/
def execLdaIzx (z : Byte) (s : State) : Result := readClass (.izx z) false 6 Cpu.loadA s

/-- `LDA $nn`, opcode $A5 (R104). -/
def execLdaZp (z : Byte) (s : State) : Result := readClass (.zp z) false 3 Cpu.loadA s

/-- `LDA #$nn`, opcode $A9 (R104). -/
def execLdaImm (i : Byte) (s : State) : Result := readClass (.imm i) false 2 Cpu.loadA s

/-- `LDA $nnnn`, opcode $AD (R104). -/
def execLdaAbs (a : Addr) (s : State) : Result := readClass (.abs a) false 4 Cpu.loadA s

/-- `LDA ($nn),Y`, opcode $B1 (R104). -/
def execLdaIzy (z : Byte) (s : State) : Result := readClass (.izy z) true 5 Cpu.loadA s

/-- `LDA $nn,X`, opcode $B5 (R104). -/
def execLdaZpx (z : Byte) (s : State) : Result := readClass (.zpx z) false 4 Cpu.loadA s

/-- `LDA $nnnn,Y`, opcode $B9 (R104). -/
def execLdaAby (a : Addr) (s : State) : Result := readClass (.aby a) true 4 Cpu.loadA s

/-- `LDA $nnnn,X`, opcode $BD (R104). -/
def execLdaAbx (a : Addr) (s : State) : Result := readClass (.abx a) true 4 Cpu.loadA s

/-- `LDX #$nn`, opcode $A2 (R105). -/
def execLdxImm (i : Byte) (s : State) : Result := readClass (.imm i) false 2 Cpu.loadX s

/-- `LDX $nn`, opcode $A6 (R105). -/
def execLdxZp (z : Byte) (s : State) : Result := readClass (.zp z) false 3 Cpu.loadX s

/-- `LDX $nnnn`, opcode $AE (R105). -/
def execLdxAbs (a : Addr) (s : State) : Result := readClass (.abs a) false 4 Cpu.loadX s

/-- `LDX $nn,Y`, opcode $B6 (R105). -/
def execLdxZpy (z : Byte) (s : State) : Result := readClass (.zpy z) false 4 Cpu.loadX s

/-- `LDX $nnnn,Y`, opcode $BE (R105). -/
def execLdxAby (a : Addr) (s : State) : Result := readClass (.aby a) true 4 Cpu.loadX s

/-- `LDY #$nn`, opcode $A0 (R106). -/
def execLdyImm (i : Byte) (s : State) : Result := readClass (.imm i) false 2 Cpu.loadY s

/-- `LDY $nn`, opcode $A4 (R106). -/
def execLdyZp (z : Byte) (s : State) : Result := readClass (.zp z) false 3 Cpu.loadY s

/-- `LDY $nnnn`, opcode $AC (R106). -/
def execLdyAbs (a : Addr) (s : State) : Result := readClass (.abs a) false 4 Cpu.loadY s

/-- `LDY $nn,X`, opcode $B4 (R106). -/
def execLdyZpx (z : Byte) (s : State) : Result := readClass (.zpx z) false 4 Cpu.loadY s

/-- `LDY $nnnn,X`, opcode $BC (R106). -/
def execLdyAbx (a : Addr) (s : State) : Result := readClass (.abx a) true 4 Cpu.loadY s

/-- `STA ($nn,X)`, opcode $81 (R107). -/
def execStaIzx (z : Byte) (s : State) : Result := writeClass (.izx z) 6 (fun _ c => c.a) s

/-- `STA $nn`, opcode $85 (R107). -/
def execStaZp (z : Byte) (s : State) : Result := writeClass (.zp z) 3 (fun _ c => c.a) s

/-- `STA $nnnn`, opcode $8D (R107). -/
def execStaAbs (a : Addr) (s : State) : Result := writeClass (.abs a) 4 (fun _ c => c.a) s

/-- `STA ($nn),Y`, opcode $91 (R107). -/
def execStaIzy (z : Byte) (s : State) : Result := writeClass (.izy z) 6 (fun _ c => c.a) s

/-- `STA $nn,X`, opcode $95 (R107). -/
def execStaZpx (z : Byte) (s : State) : Result := writeClass (.zpx z) 4 (fun _ c => c.a) s

/-- `STA $nnnn,Y`, opcode $99 (R107). -/
def execStaAby (a : Addr) (s : State) : Result := writeClass (.aby a) 5 (fun _ c => c.a) s

/-- `STA $nnnn,X`, opcode $9D (R107). -/
def execStaAbx (a : Addr) (s : State) : Result := writeClass (.abx a) 5 (fun _ c => c.a) s

/-- `STX $nn`, opcode $86 (R108). -/
def execStxZp (z : Byte) (s : State) : Result := writeClass (.zp z) 3 (fun _ c => c.x) s

/-- `STX $nnnn`, opcode $8E (R108). -/
def execStxAbs (a : Addr) (s : State) : Result := writeClass (.abs a) 4 (fun _ c => c.x) s

/-- `STX $nn,Y`, opcode $96 (R108). -/
def execStxZpy (z : Byte) (s : State) : Result := writeClass (.zpy z) 4 (fun _ c => c.x) s

/-- `STY $nn`, opcode $84 (R109). -/
def execStyZp (z : Byte) (s : State) : Result := writeClass (.zp z) 3 (fun _ c => c.y) s

/-- `STY $nnnn`, opcode $8C (R109). -/
def execStyAbs (a : Addr) (s : State) : Result := writeClass (.abs a) 4 (fun _ c => c.y) s

/-- `STY $nn,X`, opcode $94 (R109). -/
def execStyZpx (z : Byte) (s : State) : Result := writeClass (.zpx z) 4 (fun _ c => c.y) s

/-- `TAX`, opcode $AA (R110). -/
def execTax (s : State) : Result := impliedClass 2 (fun c => c.loadX c.a) s

/-- `TAY`, opcode $A8 (R111). -/
def execTay (s : State) : Result := impliedClass 2 (fun c => c.loadY c.a) s

/-- `TXA`, opcode $8A (R112). -/
def execTxa (s : State) : Result := impliedClass 2 (fun c => c.loadA c.x) s

/-- `TYA`, opcode $98 (R113). -/
def execTya (s : State) : Result := impliedClass 2 (fun c => c.loadA c.y) s

/-- `TSX`, opcode $BA (R114). -/
def execTsx (s : State) : Result := impliedClass 2 (fun c => c.loadX c.sp) s

/-- `TXS`, opcode $9A (R115). -/
def execTxs (s : State) : Result := impliedClass 2 (fun c => { c with sp := c.x }) s

/-- `PHA`, opcode $48 (R116). -/
def execPha (s : State) : Result := .next ((push s.cpu.a s).busyFor 3)

/-- `PHP`, opcode $08 (R117). -/
def execPhp (s : State) : Result := .next ((push s.cpu.pushedByBreak s).busyFor 3)

/-- `PLA`, opcode $68 (R118). -/
def execPla (s : State) : Result := .next (((pull s).2.mapCpu (Cpu.loadA (pull s).1)).busyFor 4)

/-- `PLP`, opcode $28 (R119). -/
def execPlp (s : State) : Result := .next (((pull s).2.mapCpu (Cpu.loadStat (pull s).1)).busyFor 4)

end Sys2Proof.Machine
end

