-- ==== Sys2Proof/Machine/Undocumented.lean ====
section
/-! DEFINITION. Undocumented opcodes (44_undocumented.md): the meaning of each instruction, one definition an opcode (R165-R189). -/

namespace Sys2Proof.Machine

/-- `SLO` (R165). -/
def slo (o : Operand) (cycles : Nat) (s : State) : Result :=
  modifyClass o cycles (fun m _ => shiftLeft m)
    (fun m res c => (c.setC (m.getLsbD 7)).loadA (c.a ||| res)) s

/-- `RLA` (R166). -/
def rla (o : Operand) (cycles : Nat) (s : State) : Result :=
  modifyClass o cycles (fun m c => rotateLeft m c.c)
    (fun m res c => (c.setC (m.getLsbD 7)).loadA (c.a &&& res)) s

/-- `SRE` (R167). -/
def sre (o : Operand) (cycles : Nat) (s : State) : Result :=
  modifyClass o cycles (fun m _ => shiftRight m)
    (fun m res c => (c.setC (m.getLsbD 0)).loadA (c.a ^^^ res)) s

/-- `RRA`: the carry out of the rotate is the carry into the add (R168). -/
def rra (o : Operand) (cycles : Nat) (s : State) : Result :=
  modifyClass o cycles (fun m c => rotateRight m c.c)
    (fun m res c => (c.setC (m.getLsbD 0)).addWithCarry res) s

/-- `DCP` (R169). -/
def dcp (o : Operand) (cycles : Nat) (s : State) : Result :=
  modifyClass o cycles (fun m _ => m - 1#8) (fun _ res c => c.compare c.a res) s

/-- `ISB` (R170). -/
def isb (o : Operand) (cycles : Nat) (s : State) : Result :=
  modifyClass o cycles (fun m _ => m + 1#8) (fun _ res c => c.subWithBorrow res) s

/-- `LAX`: A and X take the same byte (R171). -/
def Cpu.loadAX (v : Byte) (c : Cpu) : Cpu := { c with x := v }.loadA v

/-- `SAX`: the byte stored is A AND X (R172). -/
def sax (o : Operand) (cycles : Nat) (s : State) : Result := writeClass o cycles (fun _ c => c.a &&& c.x) s

/-- `SKB` and `IGN`: the operand is read once and the value discarded (R179, R180). -/
def ignoreRead (o : Operand) (sensitive : Bool) (cycles : Nat) (s : State) : Result :=
  readClass o sensitive cycles (fun _ c => c) s

/-- `KIL`: counted, and the CPU jams when the launch's `KIL_POLICY` says so (R181, R87). -/
def lockUp (s : State) : Result :=
  let jam := s.launch.kilPolicy == .jam
  .next ((s.mapCpu fun c =>
    { c with killCount := c.killCount + 1, jammed := c.jammed || jam }).busyFor 2)

/-- `SHA` under `nmos`: the byte stored is A AND X AND H1 (R185). -/
def sha (o : Operand) (cycles : Nat) (s : State) : Result :=
  writeClass o cycles (fun ea c => c.a &&& c.x &&& baseHighPlusOne ea c.y) s

/-- `TAS` under `nmos`: SP takes A AND X, and SP AND H1 is stored (R188). -/
def tas (o : Operand) (cycles : Nat) (s : State) : Result :=
  writeClass o cycles (fun ea c => c.sp &&& baseHighPlusOne ea c.y)
    (s.mapCpu fun c => { c with sp := c.a &&& c.x })

/-- `LAS` under `nmos`: A, X and SP take `M AND SP` (R189). -/
def Cpu.loadAXSP (m : Byte) (c : Cpu) : Cpu :=
  { c with x := m &&& c.sp, sp := m &&& c.sp }.loadA (m &&& c.sp)

/-- `SBC #$nn`, opcode $EB (R177). -/
def execSbcImmEB (i : Byte) (s : State) : Result := readClass (.imm i) false 2 Cpu.subWithBorrow s

/-- `NOP $nn`, opcode $04 (R180). -/
def execNopZp04 (z : Byte) (s : State) : Result := ignoreRead (.zp z) false 3 s

/-- `NOP $nnnn`, opcode $0C (R180). -/
def execNopAbs (a : Addr) (s : State) : Result := ignoreRead (.abs a) false 4 s

/-- `NOP $nn,X`, opcode $14 (R180). -/
def execNopZpx14 (z : Byte) (s : State) : Result := ignoreRead (.zpx z) false 4 s

/-- `NOP`, opcode $1A (R178). -/
def execNop1A (s : State) : Result := .next (s.busyFor 2)

/-- `NOP $nnnn,X`, opcode $1C (R180). -/
def execNopAbx1C (a : Addr) (s : State) : Result := ignoreRead (.abx a) true 4 s

/-- `NOP $nn,X`, opcode $34 (R180). -/
def execNopZpx34 (z : Byte) (s : State) : Result := ignoreRead (.zpx z) false 4 s

/-- `NOP`, opcode $3A (R178). -/
def execNop3A (s : State) : Result := .next (s.busyFor 2)

/-- `NOP $nnnn,X`, opcode $3C (R180). -/
def execNopAbx3C (a : Addr) (s : State) : Result := ignoreRead (.abx a) true 4 s

/-- `NOP $nn`, opcode $44 (R180). -/
def execNopZp44 (z : Byte) (s : State) : Result := ignoreRead (.zp z) false 3 s

/-- `NOP $nn,X`, opcode $54 (R180). -/
def execNopZpx54 (z : Byte) (s : State) : Result := ignoreRead (.zpx z) false 4 s

/-- `NOP`, opcode $5A (R178). -/
def execNop5A (s : State) : Result := .next (s.busyFor 2)

/-- `NOP $nnnn,X`, opcode $5C (R180). -/
def execNopAbx5C (a : Addr) (s : State) : Result := ignoreRead (.abx a) true 4 s

/-- `NOP $nn`, opcode $64 (R180). -/
def execNopZp64 (z : Byte) (s : State) : Result := ignoreRead (.zp z) false 3 s

/-- `NOP $nn,X`, opcode $74 (R180). -/
def execNopZpx74 (z : Byte) (s : State) : Result := ignoreRead (.zpx z) false 4 s

/-- `NOP`, opcode $7A (R178). -/
def execNop7A (s : State) : Result := .next (s.busyFor 2)

/-- `NOP $nnnn,X`, opcode $7C (R180). -/
def execNopAbx7C (a : Addr) (s : State) : Result := ignoreRead (.abx a) true 4 s

/-- `NOP #$nn`, opcode $80 (R179). -/
def execNopImm80 (i : Byte) (s : State) : Result := ignoreRead (.imm i) false 2 s

/-- `NOP #$nn`, opcode $82 (R179). -/
def execNopImm82 (i : Byte) (s : State) : Result := ignoreRead (.imm i) false 2 s

/-- `NOP #$nn`, opcode $89 (R179). -/
def execNopImm89 (i : Byte) (s : State) : Result := ignoreRead (.imm i) false 2 s

/-- `NOP #$nn`, opcode $C2 (R179). -/
def execNopImmC2 (i : Byte) (s : State) : Result := ignoreRead (.imm i) false 2 s

/-- `NOP $nn,X`, opcode $D4 (R180). -/
def execNopZpxD4 (z : Byte) (s : State) : Result := ignoreRead (.zpx z) false 4 s

/-- `NOP`, opcode $DA (R178). -/
def execNopDA (s : State) : Result := .next (s.busyFor 2)

/-- `NOP $nnnn,X`, opcode $DC (R180). -/
def execNopAbxDC (a : Addr) (s : State) : Result := ignoreRead (.abx a) true 4 s

/-- `NOP #$nn`, opcode $E2 (R179). -/
def execNopImmE2 (i : Byte) (s : State) : Result := ignoreRead (.imm i) false 2 s

/-- `NOP $nn,X`, opcode $F4 (R180). -/
def execNopZpxF4 (z : Byte) (s : State) : Result := ignoreRead (.zpx z) false 4 s

/-- `NOP`, opcode $FA (R178). -/
def execNopFA (s : State) : Result := .next (s.busyFor 2)

/-- `NOP $nnnn,X`, opcode $FC (R180). -/
def execNopAbxFC (a : Addr) (s : State) : Result := ignoreRead (.abx a) true 4 s

/-- `SLO ($nn,X)`, opcode $03 (R165). -/
def execSloIzx (z : Byte) (s : State) : Result := slo (.izx z) 8 s

/-- `SLO $nn`, opcode $07 (R165). -/
def execSloZp (z : Byte) (s : State) : Result := slo (.zp z) 5 s

/-- `SLO $nnnn`, opcode $0F (R165). -/
def execSloAbs (a : Addr) (s : State) : Result := slo (.abs a) 6 s

/-- `SLO ($nn),Y`, opcode $13 (R165). -/
def execSloIzy (z : Byte) (s : State) : Result := slo (.izy z) 8 s

/-- `SLO $nn,X`, opcode $17 (R165). -/
def execSloZpx (z : Byte) (s : State) : Result := slo (.zpx z) 6 s

/-- `SLO $nnnn,Y`, opcode $1B (R165). -/
def execSloAby (a : Addr) (s : State) : Result := slo (.aby a) 7 s

/-- `SLO $nnnn,X`, opcode $1F (R165). -/
def execSloAbx (a : Addr) (s : State) : Result := slo (.abx a) 7 s

/-- `RLA ($nn,X)`, opcode $23 (R166). -/
def execRlaIzx (z : Byte) (s : State) : Result := rla (.izx z) 8 s

/-- `RLA $nn`, opcode $27 (R166). -/
def execRlaZp (z : Byte) (s : State) : Result := rla (.zp z) 5 s

/-- `RLA $nnnn`, opcode $2F (R166). -/
def execRlaAbs (a : Addr) (s : State) : Result := rla (.abs a) 6 s

/-- `RLA ($nn),Y`, opcode $33 (R166). -/
def execRlaIzy (z : Byte) (s : State) : Result := rla (.izy z) 8 s

/-- `RLA $nn,X`, opcode $37 (R166). -/
def execRlaZpx (z : Byte) (s : State) : Result := rla (.zpx z) 6 s

/-- `RLA $nnnn,Y`, opcode $3B (R166). -/
def execRlaAby (a : Addr) (s : State) : Result := rla (.aby a) 7 s

/-- `RLA $nnnn,X`, opcode $3F (R166). -/
def execRlaAbx (a : Addr) (s : State) : Result := rla (.abx a) 7 s

/-- `SRE ($nn,X)`, opcode $43 (R167). -/
def execSreIzx (z : Byte) (s : State) : Result := sre (.izx z) 8 s

/-- `SRE $nn`, opcode $47 (R167). -/
def execSreZp (z : Byte) (s : State) : Result := sre (.zp z) 5 s

/-- `SRE $nnnn`, opcode $4F (R167). -/
def execSreAbs (a : Addr) (s : State) : Result := sre (.abs a) 6 s

/-- `SRE ($nn),Y`, opcode $53 (R167). -/
def execSreIzy (z : Byte) (s : State) : Result := sre (.izy z) 8 s

/-- `SRE $nn,X`, opcode $57 (R167). -/
def execSreZpx (z : Byte) (s : State) : Result := sre (.zpx z) 6 s

/-- `SRE $nnnn,Y`, opcode $5B (R167). -/
def execSreAby (a : Addr) (s : State) : Result := sre (.aby a) 7 s

/-- `SRE $nnnn,X`, opcode $5F (R167). -/
def execSreAbx (a : Addr) (s : State) : Result := sre (.abx a) 7 s

/-- `RRA ($nn,X)`, opcode $63 (R168). -/
def execRraIzx (z : Byte) (s : State) : Result := rra (.izx z) 8 s

/-- `RRA $nn`, opcode $67 (R168). -/
def execRraZp (z : Byte) (s : State) : Result := rra (.zp z) 5 s

/-- `RRA $nnnn`, opcode $6F (R168). -/
def execRraAbs (a : Addr) (s : State) : Result := rra (.abs a) 6 s

/-- `RRA ($nn),Y`, opcode $73 (R168). -/
def execRraIzy (z : Byte) (s : State) : Result := rra (.izy z) 8 s

/-- `RRA $nn,X`, opcode $77 (R168). -/
def execRraZpx (z : Byte) (s : State) : Result := rra (.zpx z) 6 s

/-- `RRA $nnnn,Y`, opcode $7B (R168). -/
def execRraAby (a : Addr) (s : State) : Result := rra (.aby a) 7 s

/-- `RRA $nnnn,X`, opcode $7F (R168). -/
def execRraAbx (a : Addr) (s : State) : Result := rra (.abx a) 7 s

/-- `DCP ($nn,X)`, opcode $C3 (R169). -/
def execDcpIzx (z : Byte) (s : State) : Result := dcp (.izx z) 8 s

/-- `DCP $nn`, opcode $C7 (R169). -/
def execDcpZp (z : Byte) (s : State) : Result := dcp (.zp z) 5 s

/-- `DCP $nnnn`, opcode $CF (R169). -/
def execDcpAbs (a : Addr) (s : State) : Result := dcp (.abs a) 6 s

/-- `DCP ($nn),Y`, opcode $D3 (R169). -/
def execDcpIzy (z : Byte) (s : State) : Result := dcp (.izy z) 8 s

/-- `DCP $nn,X`, opcode $D7 (R169). -/
def execDcpZpx (z : Byte) (s : State) : Result := dcp (.zpx z) 6 s

/-- `DCP $nnnn,Y`, opcode $DB (R169). -/
def execDcpAby (a : Addr) (s : State) : Result := dcp (.aby a) 7 s

/-- `DCP $nnnn,X`, opcode $DF (R169). -/
def execDcpAbx (a : Addr) (s : State) : Result := dcp (.abx a) 7 s

/-- `ISB ($nn,X)`, opcode $E3 (R170). -/
def execIsbIzx (z : Byte) (s : State) : Result := isb (.izx z) 8 s

/-- `ISB $nn`, opcode $E7 (R170). -/
def execIsbZp (z : Byte) (s : State) : Result := isb (.zp z) 5 s

/-- `ISB $nnnn`, opcode $EF (R170). -/
def execIsbAbs (a : Addr) (s : State) : Result := isb (.abs a) 6 s

/-- `ISB ($nn),Y`, opcode $F3 (R170). -/
def execIsbIzy (z : Byte) (s : State) : Result := isb (.izy z) 8 s

/-- `ISB $nn,X`, opcode $F7 (R170). -/
def execIsbZpx (z : Byte) (s : State) : Result := isb (.zpx z) 6 s

/-- `ISB $nnnn,Y`, opcode $FB (R170). -/
def execIsbAby (a : Addr) (s : State) : Result := isb (.aby a) 7 s

/-- `ISB $nnnn,X`, opcode $FF (R170). -/
def execIsbAbx (a : Addr) (s : State) : Result := isb (.abx a) 7 s

/-- `LAX ($nn,X)`, opcode $A3 (R171). -/
def execLaxIzx (z : Byte) (s : State) : Result := readClass (.izx z) false 6 Cpu.loadAX s

/-- `LAX $nn`, opcode $A7 (R171). -/
def execLaxZp (z : Byte) (s : State) : Result := readClass (.zp z) false 3 Cpu.loadAX s

/-- `LAX $nnnn`, opcode $AF (R171). -/
def execLaxAbs (a : Addr) (s : State) : Result := readClass (.abs a) false 4 Cpu.loadAX s

/-- `LAX ($nn),Y`, opcode $B3 (R171). -/
def execLaxIzy (z : Byte) (s : State) : Result := readClass (.izy z) true 5 Cpu.loadAX s

/-- `LAX $nn,Y`, opcode $B7 (R171). -/
def execLaxZpy (z : Byte) (s : State) : Result := readClass (.zpy z) false 4 Cpu.loadAX s

/-- `LAX $nnnn,Y`, opcode $BF (R171). -/
def execLaxAby (a : Addr) (s : State) : Result := readClass (.aby a) true 4 Cpu.loadAX s

/-- `SAX ($nn,X)`, opcode $83 (R172). -/
def execSaxIzx (z : Byte) (s : State) : Result := sax (.izx z) 6 s

/-- `SAX $nn`, opcode $87 (R172). -/
def execSaxZp (z : Byte) (s : State) : Result := sax (.zp z) 3 s

/-- `SAX $nnnn`, opcode $8F (R172). -/
def execSaxAbs (a : Addr) (s : State) : Result := sax (.abs a) 4 s

/-- `SAX $nn,Y`, opcode $97 (R172). -/
def execSaxZpy (z : Byte) (s : State) : Result := sax (.zpy z) 4 s

/-- `AAC #$nn`, opcode $0B (R173). -/
def execAacImm0B (i : Byte) (s : State) : Result := readClass (.imm i) false 2 Cpu.andCarry s

/-- `AAC #$nn`, opcode $2B (R173). -/
def execAacImm2B (i : Byte) (s : State) : Result := readClass (.imm i) false 2 Cpu.andCarry s

/-- `ASR #$nn`, opcode $4B (R174). -/
def execAsrImm (i : Byte) (s : State) : Result := readClass (.imm i) false 2 Cpu.andShiftRight s

/-- `ARR #$nn`, opcode $6B (R175). -/
def execArrImm (i : Byte) (s : State) : Result := readClass (.imm i) false 2 Cpu.andRotateRight s

/-- `AXS #$nn`, opcode $CB (R176). -/
def execAxsImm (i : Byte) (s : State) : Result := readClass (.imm i) false 2 Cpu.andXSubtract s

/-- `ANE #$nn`, opcode $8B (R183). -/
def execAneImm (i : Byte) (s : State) : Result :=
  unstable 0x8B#8 s (readClass (.imm i) false 2 (fun m c => c.loadA ((c.a ||| Config.aneMagic) &&& c.x &&& m)) s)

/-- `LXA #$nn`, opcode $AB (R184). -/
def execLxaImm (i : Byte) (s : State) : Result :=
  unstable 0xAB#8 s (readClass (.imm i) false 2 (fun m c => c.loadAX ((c.a ||| Config.lxaMagic) &&& m)) s)

/-- `SHA ($nn),Y`, opcode $93 (R185). -/
def execShaIzy (z : Byte) (s : State) : Result := unstable 0x93#8 s (sha (.izy z) 6 s)

/-- `SHA $nnnn,Y`, opcode $9F (R185). -/
def execShaAby (a : Addr) (s : State) : Result := unstable 0x9F#8 s (sha (.aby a) 5 s)

/-- `SHX $nnnn,Y`, opcode $9E (R186). -/
def execShxAby (a : Addr) (s : State) : Result :=
  unstable 0x9E#8 s (writeClass (.aby a) 5 (fun ea c => c.x &&& baseHighPlusOne ea c.y) s)

/-- `SHY $nnnn,X`, opcode $9C (R187). -/
def execShyAbx (a : Addr) (s : State) : Result :=
  unstable 0x9C#8 s (writeClass (.abx a) 5 (fun ea c => c.y &&& baseHighPlusOne ea c.x) s)

/-- `TAS $nnnn,Y`, opcode $9B (R188). -/
def execTasAby (a : Addr) (s : State) : Result := unstable 0x9B#8 s (tas (.aby a) 5 s)

/-- `LAS $nnnn,Y`, opcode $BB (R189). -/
def execLasAby (a : Addr) (s : State) : Result :=
  unstable 0xBB#8 s (readClass (.aby a) true 4 Cpu.loadAXSP s)

/-- `KIL`, opcode $02 (R181). -/
def execKil02 (s : State) : Result := lockUp s

/-- `KIL`, opcode $12 (R181). -/
def execKil12 (s : State) : Result := lockUp s

/-- `KIL`, opcode $22 (R181). -/
def execKil22 (s : State) : Result := lockUp s

/-- `KIL`, opcode $32 (R181). -/
def execKil32 (s : State) : Result := lockUp s

/-- `KIL`, opcode $42 (R181). -/
def execKil42 (s : State) : Result := lockUp s

/-- `KIL`, opcode $52 (R181). -/
def execKil52 (s : State) : Result := lockUp s

/-- `KIL`, opcode $62 (R181). -/
def execKil62 (s : State) : Result := lockUp s

/-- `KIL`, opcode $72 (R181). -/
def execKil72 (s : State) : Result := lockUp s

/-- `KIL`, opcode $92 (R181). -/
def execKil92 (s : State) : Result := lockUp s

/-- `KIL`, opcode $B2 (R181). -/
def execKilB2 (s : State) : Result := lockUp s

/-- `KIL`, opcode $D2 (R181). -/
def execKilD2 (s : State) : Result := lockUp s

/-- `KIL`, opcode $F2 (R181). -/
def execKilF2 (s : State) : Result := lockUp s

end Sys2Proof.Machine
end

