-- ==== Sys2Proof/Machine/Dispatch.lean ====
section
/-! DEFINITION. One arm per instruction: the meaning it has. -/

namespace Sys2Proof.Machine

def exec (i : Instr) (s : State) : Host.Outcome State Fault Refusal :=
  match i with
  -- Load, store, transfer and stack instructions (41_load_store_transfer.md)
  | .ldaIzx z => Sys2Proof.Machine.execLdaIzx z s
  | .ldaZp z => Sys2Proof.Machine.execLdaZp z s
  | .ldaImm v => Sys2Proof.Machine.execLdaImm v s
  | .ldaAbs a => Sys2Proof.Machine.execLdaAbs a s
  | .ldaIzy z => Sys2Proof.Machine.execLdaIzy z s
  | .ldaZpx z => Sys2Proof.Machine.execLdaZpx z s
  | .ldaAby a => Sys2Proof.Machine.execLdaAby a s
  | .ldaAbx a => Sys2Proof.Machine.execLdaAbx a s
  | .ldxImm v => Sys2Proof.Machine.execLdxImm v s
  | .ldxZp z => Sys2Proof.Machine.execLdxZp z s
  | .ldxAbs a => Sys2Proof.Machine.execLdxAbs a s
  | .ldxZpy z => Sys2Proof.Machine.execLdxZpy z s
  | .ldxAby a => Sys2Proof.Machine.execLdxAby a s
  | .ldyImm v => Sys2Proof.Machine.execLdyImm v s
  | .ldyZp z => Sys2Proof.Machine.execLdyZp z s
  | .ldyAbs a => Sys2Proof.Machine.execLdyAbs a s
  | .ldyZpx z => Sys2Proof.Machine.execLdyZpx z s
  | .ldyAbx a => Sys2Proof.Machine.execLdyAbx a s
  | .staIzx z => Sys2Proof.Machine.execStaIzx z s
  | .staZp z => Sys2Proof.Machine.execStaZp z s
  | .staAbs a => Sys2Proof.Machine.execStaAbs a s
  | .staIzy z => Sys2Proof.Machine.execStaIzy z s
  | .staZpx z => Sys2Proof.Machine.execStaZpx z s
  | .staAby a => Sys2Proof.Machine.execStaAby a s
  | .staAbx a => Sys2Proof.Machine.execStaAbx a s
  | .stxZp z => Sys2Proof.Machine.execStxZp z s
  | .stxAbs a => Sys2Proof.Machine.execStxAbs a s
  | .stxZpy z => Sys2Proof.Machine.execStxZpy z s
  | .styZp z => Sys2Proof.Machine.execStyZp z s
  | .styAbs a => Sys2Proof.Machine.execStyAbs a s
  | .styZpx z => Sys2Proof.Machine.execStyZpx z s
  | .tax => Sys2Proof.Machine.execTax s
  | .tay => Sys2Proof.Machine.execTay s
  | .txa => Sys2Proof.Machine.execTxa s
  | .tya => Sys2Proof.Machine.execTya s
  | .tsx => Sys2Proof.Machine.execTsx s
  | .txs => Sys2Proof.Machine.execTxs s
  | .pha => Sys2Proof.Machine.execPha s
  | .php => Sys2Proof.Machine.execPhp s
  | .pla => Sys2Proof.Machine.execPla s
  | .plp => Sys2Proof.Machine.execPlp s
  -- Arithmetic, logic, compare, increment and shift instructions (42_arith_logic.md)
  | .adcIzx z => Sys2Proof.Machine.execAdcIzx z s
  | .adcZp z => Sys2Proof.Machine.execAdcZp z s
  | .adcImm v => Sys2Proof.Machine.execAdcImm v s
  | .adcAbs a => Sys2Proof.Machine.execAdcAbs a s
  | .adcIzy z => Sys2Proof.Machine.execAdcIzy z s
  | .adcZpx z => Sys2Proof.Machine.execAdcZpx z s
  | .adcAby a => Sys2Proof.Machine.execAdcAby a s
  | .adcAbx a => Sys2Proof.Machine.execAdcAbx a s
  | .sbcIzx z => Sys2Proof.Machine.execSbcIzx z s
  | .sbcZp z => Sys2Proof.Machine.execSbcZp z s
  | .sbcImm v => Sys2Proof.Machine.execSbcImm v s
  | .sbcAbs a => Sys2Proof.Machine.execSbcAbs a s
  | .sbcIzy z => Sys2Proof.Machine.execSbcIzy z s
  | .sbcZpx z => Sys2Proof.Machine.execSbcZpx z s
  | .sbcAby a => Sys2Proof.Machine.execSbcAby a s
  | .sbcAbx a => Sys2Proof.Machine.execSbcAbx a s
  | .andIzx z => Sys2Proof.Machine.execAndIzx z s
  | .andZp z => Sys2Proof.Machine.execAndZp z s
  | .andImm v => Sys2Proof.Machine.execAndImm v s
  | .andAbs a => Sys2Proof.Machine.execAndAbs a s
  | .andIzy z => Sys2Proof.Machine.execAndIzy z s
  | .andZpx z => Sys2Proof.Machine.execAndZpx z s
  | .andAby a => Sys2Proof.Machine.execAndAby a s
  | .andAbx a => Sys2Proof.Machine.execAndAbx a s
  | .oraIzx z => Sys2Proof.Machine.execOraIzx z s
  | .oraZp z => Sys2Proof.Machine.execOraZp z s
  | .oraImm v => Sys2Proof.Machine.execOraImm v s
  | .oraAbs a => Sys2Proof.Machine.execOraAbs a s
  | .oraIzy z => Sys2Proof.Machine.execOraIzy z s
  | .oraZpx z => Sys2Proof.Machine.execOraZpx z s
  | .oraAby a => Sys2Proof.Machine.execOraAby a s
  | .oraAbx a => Sys2Proof.Machine.execOraAbx a s
  | .eorIzx z => Sys2Proof.Machine.execEorIzx z s
  | .eorZp z => Sys2Proof.Machine.execEorZp z s
  | .eorImm v => Sys2Proof.Machine.execEorImm v s
  | .eorAbs a => Sys2Proof.Machine.execEorAbs a s
  | .eorIzy z => Sys2Proof.Machine.execEorIzy z s
  | .eorZpx z => Sys2Proof.Machine.execEorZpx z s
  | .eorAby a => Sys2Proof.Machine.execEorAby a s
  | .eorAbx a => Sys2Proof.Machine.execEorAbx a s
  | .bitZp z => Sys2Proof.Machine.execBitZp z s
  | .bitAbs a => Sys2Proof.Machine.execBitAbs a s
  | .cmpIzx z => Sys2Proof.Machine.execCmpIzx z s
  | .cmpZp z => Sys2Proof.Machine.execCmpZp z s
  | .cmpImm v => Sys2Proof.Machine.execCmpImm v s
  | .cmpAbs a => Sys2Proof.Machine.execCmpAbs a s
  | .cmpIzy z => Sys2Proof.Machine.execCmpIzy z s
  | .cmpZpx z => Sys2Proof.Machine.execCmpZpx z s
  | .cmpAby a => Sys2Proof.Machine.execCmpAby a s
  | .cmpAbx a => Sys2Proof.Machine.execCmpAbx a s
  | .cpxImm v => Sys2Proof.Machine.execCpxImm v s
  | .cpxZp z => Sys2Proof.Machine.execCpxZp z s
  | .cpxAbs a => Sys2Proof.Machine.execCpxAbs a s
  | .cpyImm v => Sys2Proof.Machine.execCpyImm v s
  | .cpyZp z => Sys2Proof.Machine.execCpyZp z s
  | .cpyAbs a => Sys2Proof.Machine.execCpyAbs a s
  | .incZp z => Sys2Proof.Machine.execIncZp z s
  | .incAbs a => Sys2Proof.Machine.execIncAbs a s
  | .incZpx z => Sys2Proof.Machine.execIncZpx z s
  | .incAbx a => Sys2Proof.Machine.execIncAbx a s
  | .decZp z => Sys2Proof.Machine.execDecZp z s
  | .decAbs a => Sys2Proof.Machine.execDecAbs a s
  | .decZpx z => Sys2Proof.Machine.execDecZpx z s
  | .decAbx a => Sys2Proof.Machine.execDecAbx a s
  | .inx => Sys2Proof.Machine.execInx s
  | .iny => Sys2Proof.Machine.execIny s
  | .dex => Sys2Proof.Machine.execDex s
  | .dey => Sys2Proof.Machine.execDey s
  | .aslZp z => Sys2Proof.Machine.execAslZp z s
  | .aslAcc => Sys2Proof.Machine.execAslAcc s
  | .aslAbs a => Sys2Proof.Machine.execAslAbs a s
  | .aslZpx z => Sys2Proof.Machine.execAslZpx z s
  | .aslAbx a => Sys2Proof.Machine.execAslAbx a s
  | .lsrZp z => Sys2Proof.Machine.execLsrZp z s
  | .lsrAcc => Sys2Proof.Machine.execLsrAcc s
  | .lsrAbs a => Sys2Proof.Machine.execLsrAbs a s
  | .lsrZpx z => Sys2Proof.Machine.execLsrZpx z s
  | .lsrAbx a => Sys2Proof.Machine.execLsrAbx a s
  | .rolZp z => Sys2Proof.Machine.execRolZp z s
  | .rolAcc => Sys2Proof.Machine.execRolAcc s
  | .rolAbs a => Sys2Proof.Machine.execRolAbs a s
  | .rolZpx z => Sys2Proof.Machine.execRolZpx z s
  | .rolAbx a => Sys2Proof.Machine.execRolAbx a s
  | .rorZp z => Sys2Proof.Machine.execRorZp z s
  | .rorAcc => Sys2Proof.Machine.execRorAcc s
  | .rorAbs a => Sys2Proof.Machine.execRorAbs a s
  | .rorZpx z => Sys2Proof.Machine.execRorZpx z s
  | .rorAbx a => Sys2Proof.Machine.execRorAbx a s
  -- Branches, jumps, subroutines, interrupt return and flags (43_control_flags.md)
  | .bpl o => Sys2Proof.Machine.execBpl o s
  | .bmi o => Sys2Proof.Machine.execBmi o s
  | .bvc o => Sys2Proof.Machine.execBvc o s
  | .bvs o => Sys2Proof.Machine.execBvs o s
  | .bcc o => Sys2Proof.Machine.execBcc o s
  | .bcs o => Sys2Proof.Machine.execBcs o s
  | .bne o => Sys2Proof.Machine.execBne o s
  | .beq o => Sys2Proof.Machine.execBeq o s
  | .jmpAbs a => Sys2Proof.Machine.execJmpAbs a s
  | .jmpInd a => Sys2Proof.Machine.execJmpInd a s
  | .jsrAbs a => Sys2Proof.Machine.execJsrAbs a s
  | .rts => Sys2Proof.Machine.execRts s
  | .brk => Sys2Proof.Machine.execBrk s
  | .rti => Sys2Proof.Machine.execRti s
  | .clc => Sys2Proof.Machine.execClc s
  | .sec => Sys2Proof.Machine.execSec s
  | .cli => Sys2Proof.Machine.execCli s
  | .sei => Sys2Proof.Machine.execSei s
  | .clv => Sys2Proof.Machine.execClv s
  | .cld => Sys2Proof.Machine.execCld s
  | .sed => Sys2Proof.Machine.execSed s
  | .nop => Sys2Proof.Machine.execNop s
  -- Undocumented opcodes (44_undocumented.md)
  | .sbcImmEB v => Sys2Proof.Machine.execSbcImmEB v s
  | .nopZp04 z => Sys2Proof.Machine.execNopZp04 z s
  | .nopAbs a => Sys2Proof.Machine.execNopAbs a s
  | .nopZpx14 z => Sys2Proof.Machine.execNopZpx14 z s
  | .nop1A => Sys2Proof.Machine.execNop1A s
  | .nopAbx1C a => Sys2Proof.Machine.execNopAbx1C a s
  | .nopZpx34 z => Sys2Proof.Machine.execNopZpx34 z s
  | .nop3A => Sys2Proof.Machine.execNop3A s
  | .nopAbx3C a => Sys2Proof.Machine.execNopAbx3C a s
  | .nopZp44 z => Sys2Proof.Machine.execNopZp44 z s
  | .nopZpx54 z => Sys2Proof.Machine.execNopZpx54 z s
  | .nop5A => Sys2Proof.Machine.execNop5A s
  | .nopAbx5C a => Sys2Proof.Machine.execNopAbx5C a s
  | .nopZp64 z => Sys2Proof.Machine.execNopZp64 z s
  | .nopZpx74 z => Sys2Proof.Machine.execNopZpx74 z s
  | .nop7A => Sys2Proof.Machine.execNop7A s
  | .nopAbx7C a => Sys2Proof.Machine.execNopAbx7C a s
  | .nopImm80 v => Sys2Proof.Machine.execNopImm80 v s
  | .nopImm82 v => Sys2Proof.Machine.execNopImm82 v s
  | .nopImm89 v => Sys2Proof.Machine.execNopImm89 v s
  | .nopImmC2 v => Sys2Proof.Machine.execNopImmC2 v s
  | .nopZpxD4 z => Sys2Proof.Machine.execNopZpxD4 z s
  | .nopDA => Sys2Proof.Machine.execNopDA s
  | .nopAbxDC a => Sys2Proof.Machine.execNopAbxDC a s
  | .nopImmE2 v => Sys2Proof.Machine.execNopImmE2 v s
  | .nopZpxF4 z => Sys2Proof.Machine.execNopZpxF4 z s
  | .nopFA => Sys2Proof.Machine.execNopFA s
  | .nopAbxFC a => Sys2Proof.Machine.execNopAbxFC a s
  | .sloIzx z => Sys2Proof.Machine.execSloIzx z s
  | .sloZp z => Sys2Proof.Machine.execSloZp z s
  | .sloAbs a => Sys2Proof.Machine.execSloAbs a s
  | .sloIzy z => Sys2Proof.Machine.execSloIzy z s
  | .sloZpx z => Sys2Proof.Machine.execSloZpx z s
  | .sloAby a => Sys2Proof.Machine.execSloAby a s
  | .sloAbx a => Sys2Proof.Machine.execSloAbx a s
  | .rlaIzx z => Sys2Proof.Machine.execRlaIzx z s
  | .rlaZp z => Sys2Proof.Machine.execRlaZp z s
  | .rlaAbs a => Sys2Proof.Machine.execRlaAbs a s
  | .rlaIzy z => Sys2Proof.Machine.execRlaIzy z s
  | .rlaZpx z => Sys2Proof.Machine.execRlaZpx z s
  | .rlaAby a => Sys2Proof.Machine.execRlaAby a s
  | .rlaAbx a => Sys2Proof.Machine.execRlaAbx a s
  | .sreIzx z => Sys2Proof.Machine.execSreIzx z s
  | .sreZp z => Sys2Proof.Machine.execSreZp z s
  | .sreAbs a => Sys2Proof.Machine.execSreAbs a s
  | .sreIzy z => Sys2Proof.Machine.execSreIzy z s
  | .sreZpx z => Sys2Proof.Machine.execSreZpx z s
  | .sreAby a => Sys2Proof.Machine.execSreAby a s
  | .sreAbx a => Sys2Proof.Machine.execSreAbx a s
  | .rraIzx z => Sys2Proof.Machine.execRraIzx z s
  | .rraZp z => Sys2Proof.Machine.execRraZp z s
  | .rraAbs a => Sys2Proof.Machine.execRraAbs a s
  | .rraIzy z => Sys2Proof.Machine.execRraIzy z s
  | .rraZpx z => Sys2Proof.Machine.execRraZpx z s
  | .rraAby a => Sys2Proof.Machine.execRraAby a s
  | .rraAbx a => Sys2Proof.Machine.execRraAbx a s
  | .dcpIzx z => Sys2Proof.Machine.execDcpIzx z s
  | .dcpZp z => Sys2Proof.Machine.execDcpZp z s
  | .dcpAbs a => Sys2Proof.Machine.execDcpAbs a s
  | .dcpIzy z => Sys2Proof.Machine.execDcpIzy z s
  | .dcpZpx z => Sys2Proof.Machine.execDcpZpx z s
  | .dcpAby a => Sys2Proof.Machine.execDcpAby a s
  | .dcpAbx a => Sys2Proof.Machine.execDcpAbx a s
  | .isbIzx z => Sys2Proof.Machine.execIsbIzx z s
  | .isbZp z => Sys2Proof.Machine.execIsbZp z s
  | .isbAbs a => Sys2Proof.Machine.execIsbAbs a s
  | .isbIzy z => Sys2Proof.Machine.execIsbIzy z s
  | .isbZpx z => Sys2Proof.Machine.execIsbZpx z s
  | .isbAby a => Sys2Proof.Machine.execIsbAby a s
  | .isbAbx a => Sys2Proof.Machine.execIsbAbx a s
  | .laxIzx z => Sys2Proof.Machine.execLaxIzx z s
  | .laxZp z => Sys2Proof.Machine.execLaxZp z s
  | .laxAbs a => Sys2Proof.Machine.execLaxAbs a s
  | .laxIzy z => Sys2Proof.Machine.execLaxIzy z s
  | .laxZpy z => Sys2Proof.Machine.execLaxZpy z s
  | .laxAby a => Sys2Proof.Machine.execLaxAby a s
  | .saxIzx z => Sys2Proof.Machine.execSaxIzx z s
  | .saxZp z => Sys2Proof.Machine.execSaxZp z s
  | .saxAbs a => Sys2Proof.Machine.execSaxAbs a s
  | .saxZpy z => Sys2Proof.Machine.execSaxZpy z s
  | .aacImm0B v => Sys2Proof.Machine.execAacImm0B v s
  | .aacImm2B v => Sys2Proof.Machine.execAacImm2B v s
  | .asrImm v => Sys2Proof.Machine.execAsrImm v s
  | .arrImm v => Sys2Proof.Machine.execArrImm v s
  | .axsImm v => Sys2Proof.Machine.execAxsImm v s
  | .aneImm v => Sys2Proof.Machine.execAneImm v s
  | .lxaImm v => Sys2Proof.Machine.execLxaImm v s
  | .shaIzy z => Sys2Proof.Machine.execShaIzy z s
  | .shaAby a => Sys2Proof.Machine.execShaAby a s
  | .shxAby a => Sys2Proof.Machine.execShxAby a s
  | .shyAbx a => Sys2Proof.Machine.execShyAbx a s
  | .tasAby a => Sys2Proof.Machine.execTasAby a s
  | .lasAby a => Sys2Proof.Machine.execLasAby a s
  | .kil02 => Sys2Proof.Machine.execKil02 s
  | .kil12 => Sys2Proof.Machine.execKil12 s
  | .kil22 => Sys2Proof.Machine.execKil22 s
  | .kil32 => Sys2Proof.Machine.execKil32 s
  | .kil42 => Sys2Proof.Machine.execKil42 s
  | .kil52 => Sys2Proof.Machine.execKil52 s
  | .kil62 => Sys2Proof.Machine.execKil62 s
  | .kil72 => Sys2Proof.Machine.execKil72 s
  | .kil92 => Sys2Proof.Machine.execKil92 s
  | .kilB2 => Sys2Proof.Machine.execKilB2 s
  | .kilD2 => Sys2Proof.Machine.execKilD2 s
  | .kilF2 => Sys2Proof.Machine.execKilF2 s

end Sys2Proof.Machine
end

