-- ==== Sys2Proof/WellFormed.lean ====
section
/-! DEFINITION. Well-formedness. Every operand is a whole byte or a whole 16-bit word and every opcode
byte is assigned (R75, R80), so an instruction's own fields admit no illegal value; what can be ill
formed is a row of the opcode table, and an instruction is well formed when its row is legal
(`Instr.wellFormed`, in Decode.lean). -/

namespace Sys2Proof

/-- An instruction's length in bytes, by its mode (R70). -/
def Mode.length (m : Mode) : Nat :=
  match m with
  | .imp | .acc => 1
  | .abs | .abx | .aby | .ind => 3
  | _ => 2

/-- Check 1: the operand bytes are as many as the mode has (R70). -/
def Row.lengthLegal (r : Row) : Bool := r.operands.length + 1 == r.mode.length

/-- Check 2: a base cycle count is 2 to 8 (R84, R264). -/
def Row.cyclesLegal (r : Row) : Bool := decide (2 ≤ r.cycles) && decide (r.cycles ≤ 8)

/-- Check 3: only the modes `abx`, `aby` and `izy` can be page-boundary-sensitive (R101). -/
def Row.pageCrossLegal (r : Row) : Bool :=
  !r.pageCross || r.mode == .abx || r.mode == .aby || r.mode == .izy

/-- Check 4: a mnemonic has three letters (R81). -/
def Row.mnemonicLegal (r : Row) : Bool := r.mnemonic.length == 3

/-- A legal row of the opcode table. -/
def Row.wellFormed (r : Row) : Bool :=
  r.lengthLegal && r.cyclesLegal && r.pageCrossLegal && r.mnemonicLegal

end Sys2Proof
end

