-- ==== Sys2Proof/Decode.lean ====
section
/-! DEFINITION. The decoder and the encoder, both written from the opcode map of R73: the decoder is a
total lookup of the opcode byte (R71, R86), the encoder the opcode and the operand bytes in the order of
R70, low byte first (R54). -/

namespace Sys2Proof

/-- A cell of the opcode map: an instruction without operand bytes, with one, or with a 16-bit operand
of two (R70). -/
inductive Shape where
  | alone (i : Instr)
  | byte (mk : Byte → Instr)
  | word (mk : Addr → Instr)

/-- How many operand bytes follow the opcode (R70). -/
def Shape.operandCount (s : Shape) : Nat :=
  match s with
  | .alone _ => 0
  | .byte _ => 1
  | .word _ => 2

/-- The instruction of a map cell with the operand bytes `b1` and `b2` (R72). -/
def Shape.build (s : Shape) (b1 b2 : Byte) : Instr :=
  match s with
  | .alone i => i
  | .byte mk => mk b1
  | .word mk => mk (mkAddr b2 b1)

/-- The opcode map's line $00-$0F (R73). -/
def mapLine0 : List Shape :=
  [.alone .brk, .byte .oraIzx, .alone .kil02, .byte .sloIzx,
   .byte .nopZp04, .byte .oraZp, .byte .aslZp, .byte .sloZp,
   .alone .php, .byte .oraImm, .alone .aslAcc, .byte .aacImm0B,
   .word .nopAbs, .word .oraAbs, .word .aslAbs, .word .sloAbs]

/-- The opcode map's line $10-$1F (R73). -/
def mapLine1 : List Shape :=
  [.byte .bpl, .byte .oraIzy, .alone .kil12, .byte .sloIzy,
   .byte .nopZpx14, .byte .oraZpx, .byte .aslZpx, .byte .sloZpx,
   .alone .clc, .word .oraAby, .alone .nop1A, .word .sloAby,
   .word .nopAbx1C, .word .oraAbx, .word .aslAbx, .word .sloAbx]

/-- The opcode map's line $20-$2F (R73). -/
def mapLine2 : List Shape :=
  [.word .jsrAbs, .byte .andIzx, .alone .kil22, .byte .rlaIzx,
   .byte .bitZp, .byte .andZp, .byte .rolZp, .byte .rlaZp,
   .alone .plp, .byte .andImm, .alone .rolAcc, .byte .aacImm2B,
   .word .bitAbs, .word .andAbs, .word .rolAbs, .word .rlaAbs]

/-- The opcode map's line $30-$3F (R73). -/
def mapLine3 : List Shape :=
  [.byte .bmi, .byte .andIzy, .alone .kil32, .byte .rlaIzy,
   .byte .nopZpx34, .byte .andZpx, .byte .rolZpx, .byte .rlaZpx,
   .alone .sec, .word .andAby, .alone .nop3A, .word .rlaAby,
   .word .nopAbx3C, .word .andAbx, .word .rolAbx, .word .rlaAbx]

/-- The opcode map's line $40-$4F (R73). -/
def mapLine4 : List Shape :=
  [.alone .rti, .byte .eorIzx, .alone .kil42, .byte .sreIzx,
   .byte .nopZp44, .byte .eorZp, .byte .lsrZp, .byte .sreZp,
   .alone .pha, .byte .eorImm, .alone .lsrAcc, .byte .asrImm,
   .word .jmpAbs, .word .eorAbs, .word .lsrAbs, .word .sreAbs]

/-- The opcode map's line $50-$5F (R73). -/
def mapLine5 : List Shape :=
  [.byte .bvc, .byte .eorIzy, .alone .kil52, .byte .sreIzy,
   .byte .nopZpx54, .byte .eorZpx, .byte .lsrZpx, .byte .sreZpx,
   .alone .cli, .word .eorAby, .alone .nop5A, .word .sreAby,
   .word .nopAbx5C, .word .eorAbx, .word .lsrAbx, .word .sreAbx]

/-- The opcode map's line $60-$6F (R73). -/
def mapLine6 : List Shape :=
  [.alone .rts, .byte .adcIzx, .alone .kil62, .byte .rraIzx,
   .byte .nopZp64, .byte .adcZp, .byte .rorZp, .byte .rraZp,
   .alone .pla, .byte .adcImm, .alone .rorAcc, .byte .arrImm,
   .word .jmpInd, .word .adcAbs, .word .rorAbs, .word .rraAbs]

/-- The opcode map's line $70-$7F (R73). -/
def mapLine7 : List Shape :=
  [.byte .bvs, .byte .adcIzy, .alone .kil72, .byte .rraIzy,
   .byte .nopZpx74, .byte .adcZpx, .byte .rorZpx, .byte .rraZpx,
   .alone .sei, .word .adcAby, .alone .nop7A, .word .rraAby,
   .word .nopAbx7C, .word .adcAbx, .word .rorAbx, .word .rraAbx]

/-- The opcode map's line $80-$8F (R73). -/
def mapLine8 : List Shape :=
  [.byte .nopImm80, .byte .staIzx, .byte .nopImm82, .byte .saxIzx,
   .byte .styZp, .byte .staZp, .byte .stxZp, .byte .saxZp,
   .alone .dey, .byte .nopImm89, .alone .txa, .byte .aneImm,
   .word .styAbs, .word .staAbs, .word .stxAbs, .word .saxAbs]

/-- The opcode map's line $90-$9F (R73). -/
def mapLine9 : List Shape :=
  [.byte .bcc, .byte .staIzy, .alone .kil92, .byte .shaIzy,
   .byte .styZpx, .byte .staZpx, .byte .stxZpy, .byte .saxZpy,
   .alone .tya, .word .staAby, .alone .txs, .word .tasAby,
   .word .shyAbx, .word .staAbx, .word .shxAby, .word .shaAby]

/-- The opcode map's line $A0-$AF (R73). -/
def mapLineA : List Shape :=
  [.byte .ldyImm, .byte .ldaIzx, .byte .ldxImm, .byte .laxIzx,
   .byte .ldyZp, .byte .ldaZp, .byte .ldxZp, .byte .laxZp,
   .alone .tay, .byte .ldaImm, .alone .tax, .byte .lxaImm,
   .word .ldyAbs, .word .ldaAbs, .word .ldxAbs, .word .laxAbs]

/-- The opcode map's line $B0-$BF (R73). -/
def mapLineB : List Shape :=
  [.byte .bcs, .byte .ldaIzy, .alone .kilB2, .byte .laxIzy,
   .byte .ldyZpx, .byte .ldaZpx, .byte .ldxZpy, .byte .laxZpy,
   .alone .clv, .word .ldaAby, .alone .tsx, .word .lasAby,
   .word .ldyAbx, .word .ldaAbx, .word .ldxAby, .word .laxAby]

/-- The opcode map's line $C0-$CF (R73). -/
def mapLineC : List Shape :=
  [.byte .cpyImm, .byte .cmpIzx, .byte .nopImmC2, .byte .dcpIzx,
   .byte .cpyZp, .byte .cmpZp, .byte .decZp, .byte .dcpZp,
   .alone .iny, .byte .cmpImm, .alone .dex, .byte .axsImm,
   .word .cpyAbs, .word .cmpAbs, .word .decAbs, .word .dcpAbs]

/-- The opcode map's line $D0-$DF (R73). -/
def mapLineD : List Shape :=
  [.byte .bne, .byte .cmpIzy, .alone .kilD2, .byte .dcpIzy,
   .byte .nopZpxD4, .byte .cmpZpx, .byte .decZpx, .byte .dcpZpx,
   .alone .cld, .word .cmpAby, .alone .nopDA, .word .dcpAby,
   .word .nopAbxDC, .word .cmpAbx, .word .decAbx, .word .dcpAbx]

/-- The opcode map's line $E0-$EF (R73). -/
def mapLineE : List Shape :=
  [.byte .cpxImm, .byte .sbcIzx, .byte .nopImmE2, .byte .isbIzx,
   .byte .cpxZp, .byte .sbcZp, .byte .incZp, .byte .isbZp,
   .alone .inx, .byte .sbcImm, .alone .nop, .byte .sbcImmEB,
   .word .cpxAbs, .word .sbcAbs, .word .incAbs, .word .isbAbs]

/-- The opcode map's line $F0-$FF (R73). -/
def mapLineF : List Shape :=
  [.byte .beq, .byte .sbcIzy, .alone .kilF2, .byte .isbIzy,
   .byte .nopZpxF4, .byte .sbcZpx, .byte .incZpx, .byte .isbZpx,
   .alone .sed, .word .sbcAby, .alone .nopFA, .word .isbAby,
   .word .nopAbxFC, .word .sbcAbx, .word .incAbx, .word .isbAbx]

/-- The opcode map of R73, one entry a line of it. -/
def opcodeMap : List (List Shape) :=
  [mapLine0, mapLine1, mapLine2, mapLine3, mapLine4, mapLine5, mapLine6, mapLine7] ++
  [mapLine8, mapLine9, mapLineA, mapLineB, mapLineC, mapLineD, mapLineE, mapLineF]

/-- The map cell of an opcode byte. Every byte has one (`Laws.opcodeMap_total`), so the defaults are
never taken. -/
def cellOf (op : Byte) : Shape :=
  (opcodeMap.getD (op.toNat / 16) []).getD (op.toNat % 16) (.alone .nop)

/-- How many operand bytes an opcode takes. -/
def operandCount (op : Byte) : Nat := (cellOf op).operandCount

/-- The instruction of an opcode byte and its operand bytes; the bytes it does not take are ignored. -/
def decodeWith (op b1 b2 : Byte) : Instr := (cellOf op).build b1 b2

/-- Why a byte string is no instruction: no byte of R73's map is unassigned (R75, R80), so only bytes
can be missing. -/
inductive DecodeError where
  | noOpcode
  | operandBytesMissing (opcode : Byte)
  deriving DecidableEq, Repr

/-- Decode the instruction at the head of a byte string and give the bytes after it. -/
def decode (bytes : List Byte) : Except DecodeError (Instr × List Byte) :=
  match bytes with
  | [] => .error .noOpcode
  | op :: rest =>
    if rest.length < operandCount op then .error (.operandBytesMissing op)
    else .ok (decodeWith op (rest.getD 0 0#8) (rest.getD 1 0#8), rest.drop (operandCount op))

/-- The opcode table's row of an instruction (R73, R74). -/
def Instr.row (i : Instr) : Row :=
  match i with
  | .ldaIzx z => ⟨0xA1#8, "LDA", .izx, 6, false, [z]⟩
  | .ldaZp z => ⟨0xA5#8, "LDA", .zp, 3, false, [z]⟩
  | .ldaImm i => ⟨0xA9#8, "LDA", .imm, 2, false, [i]⟩
  | .ldaAbs a => ⟨0xAD#8, "LDA", .abs, 4, false, [lo a, hi a]⟩
  | .ldaIzy z => ⟨0xB1#8, "LDA", .izy, 5, true, [z]⟩
  | .ldaZpx z => ⟨0xB5#8, "LDA", .zpx, 4, false, [z]⟩
  | .ldaAby a => ⟨0xB9#8, "LDA", .aby, 4, true, [lo a, hi a]⟩
  | .ldaAbx a => ⟨0xBD#8, "LDA", .abx, 4, true, [lo a, hi a]⟩
  | .ldxImm i => ⟨0xA2#8, "LDX", .imm, 2, false, [i]⟩
  | .ldxZp z => ⟨0xA6#8, "LDX", .zp, 3, false, [z]⟩
  | .ldxAbs a => ⟨0xAE#8, "LDX", .abs, 4, false, [lo a, hi a]⟩
  | .ldxZpy z => ⟨0xB6#8, "LDX", .zpy, 4, false, [z]⟩
  | .ldxAby a => ⟨0xBE#8, "LDX", .aby, 4, true, [lo a, hi a]⟩
  | .ldyImm i => ⟨0xA0#8, "LDY", .imm, 2, false, [i]⟩
  | .ldyZp z => ⟨0xA4#8, "LDY", .zp, 3, false, [z]⟩
  | .ldyAbs a => ⟨0xAC#8, "LDY", .abs, 4, false, [lo a, hi a]⟩
  | .ldyZpx z => ⟨0xB4#8, "LDY", .zpx, 4, false, [z]⟩
  | .ldyAbx a => ⟨0xBC#8, "LDY", .abx, 4, true, [lo a, hi a]⟩
  | .staIzx z => ⟨0x81#8, "STA", .izx, 6, false, [z]⟩
  | .staZp z => ⟨0x85#8, "STA", .zp, 3, false, [z]⟩
  | .staAbs a => ⟨0x8D#8, "STA", .abs, 4, false, [lo a, hi a]⟩
  | .staIzy z => ⟨0x91#8, "STA", .izy, 6, false, [z]⟩
  | .staZpx z => ⟨0x95#8, "STA", .zpx, 4, false, [z]⟩
  | .staAby a => ⟨0x99#8, "STA", .aby, 5, false, [lo a, hi a]⟩
  | .staAbx a => ⟨0x9D#8, "STA", .abx, 5, false, [lo a, hi a]⟩
  | .stxZp z => ⟨0x86#8, "STX", .zp, 3, false, [z]⟩
  | .stxAbs a => ⟨0x8E#8, "STX", .abs, 4, false, [lo a, hi a]⟩
  | .stxZpy z => ⟨0x96#8, "STX", .zpy, 4, false, [z]⟩
  | .styZp z => ⟨0x84#8, "STY", .zp, 3, false, [z]⟩
  | .styAbs a => ⟨0x8C#8, "STY", .abs, 4, false, [lo a, hi a]⟩
  | .styZpx z => ⟨0x94#8, "STY", .zpx, 4, false, [z]⟩
  | .tax => ⟨0xAA#8, "TAX", .imp, 2, false, []⟩
  | .tay => ⟨0xA8#8, "TAY", .imp, 2, false, []⟩
  | .txa => ⟨0x8A#8, "TXA", .imp, 2, false, []⟩
  | .tya => ⟨0x98#8, "TYA", .imp, 2, false, []⟩
  | .tsx => ⟨0xBA#8, "TSX", .imp, 2, false, []⟩
  | .txs => ⟨0x9A#8, "TXS", .imp, 2, false, []⟩
  | .pha => ⟨0x48#8, "PHA", .imp, 3, false, []⟩
  | .php => ⟨0x08#8, "PHP", .imp, 3, false, []⟩
  | .pla => ⟨0x68#8, "PLA", .imp, 4, false, []⟩
  | .plp => ⟨0x28#8, "PLP", .imp, 4, false, []⟩
  | .adcIzx z => ⟨0x61#8, "ADC", .izx, 6, false, [z]⟩
  | .adcZp z => ⟨0x65#8, "ADC", .zp, 3, false, [z]⟩
  | .adcImm i => ⟨0x69#8, "ADC", .imm, 2, false, [i]⟩
  | .adcAbs a => ⟨0x6D#8, "ADC", .abs, 4, false, [lo a, hi a]⟩
  | .adcIzy z => ⟨0x71#8, "ADC", .izy, 5, true, [z]⟩
  | .adcZpx z => ⟨0x75#8, "ADC", .zpx, 4, false, [z]⟩
  | .adcAby a => ⟨0x79#8, "ADC", .aby, 4, true, [lo a, hi a]⟩
  | .adcAbx a => ⟨0x7D#8, "ADC", .abx, 4, true, [lo a, hi a]⟩
  | .sbcIzx z => ⟨0xE1#8, "SBC", .izx, 6, false, [z]⟩
  | .sbcZp z => ⟨0xE5#8, "SBC", .zp, 3, false, [z]⟩
  | .sbcImm i => ⟨0xE9#8, "SBC", .imm, 2, false, [i]⟩
  | .sbcAbs a => ⟨0xED#8, "SBC", .abs, 4, false, [lo a, hi a]⟩
  | .sbcIzy z => ⟨0xF1#8, "SBC", .izy, 5, true, [z]⟩
  | .sbcZpx z => ⟨0xF5#8, "SBC", .zpx, 4, false, [z]⟩
  | .sbcAby a => ⟨0xF9#8, "SBC", .aby, 4, true, [lo a, hi a]⟩
  | .sbcAbx a => ⟨0xFD#8, "SBC", .abx, 4, true, [lo a, hi a]⟩
  | .andIzx z => ⟨0x21#8, "AND", .izx, 6, false, [z]⟩
  | .andZp z => ⟨0x25#8, "AND", .zp, 3, false, [z]⟩
  | .andImm i => ⟨0x29#8, "AND", .imm, 2, false, [i]⟩
  | .andAbs a => ⟨0x2D#8, "AND", .abs, 4, false, [lo a, hi a]⟩
  | .andIzy z => ⟨0x31#8, "AND", .izy, 5, true, [z]⟩
  | .andZpx z => ⟨0x35#8, "AND", .zpx, 4, false, [z]⟩
  | .andAby a => ⟨0x39#8, "AND", .aby, 4, true, [lo a, hi a]⟩
  | .andAbx a => ⟨0x3D#8, "AND", .abx, 4, true, [lo a, hi a]⟩
  | .oraIzx z => ⟨0x01#8, "ORA", .izx, 6, false, [z]⟩
  | .oraZp z => ⟨0x05#8, "ORA", .zp, 3, false, [z]⟩
  | .oraImm i => ⟨0x09#8, "ORA", .imm, 2, false, [i]⟩
  | .oraAbs a => ⟨0x0D#8, "ORA", .abs, 4, false, [lo a, hi a]⟩
  | .oraIzy z => ⟨0x11#8, "ORA", .izy, 5, true, [z]⟩
  | .oraZpx z => ⟨0x15#8, "ORA", .zpx, 4, false, [z]⟩
  | .oraAby a => ⟨0x19#8, "ORA", .aby, 4, true, [lo a, hi a]⟩
  | .oraAbx a => ⟨0x1D#8, "ORA", .abx, 4, true, [lo a, hi a]⟩
  | .eorIzx z => ⟨0x41#8, "EOR", .izx, 6, false, [z]⟩
  | .eorZp z => ⟨0x45#8, "EOR", .zp, 3, false, [z]⟩
  | .eorImm i => ⟨0x49#8, "EOR", .imm, 2, false, [i]⟩
  | .eorAbs a => ⟨0x4D#8, "EOR", .abs, 4, false, [lo a, hi a]⟩
  | .eorIzy z => ⟨0x51#8, "EOR", .izy, 5, true, [z]⟩
  | .eorZpx z => ⟨0x55#8, "EOR", .zpx, 4, false, [z]⟩
  | .eorAby a => ⟨0x59#8, "EOR", .aby, 4, true, [lo a, hi a]⟩
  | .eorAbx a => ⟨0x5D#8, "EOR", .abx, 4, true, [lo a, hi a]⟩
  | .bitZp z => ⟨0x24#8, "BIT", .zp, 3, false, [z]⟩
  | .bitAbs a => ⟨0x2C#8, "BIT", .abs, 4, false, [lo a, hi a]⟩
  | .cmpIzx z => ⟨0xC1#8, "CMP", .izx, 6, false, [z]⟩
  | .cmpZp z => ⟨0xC5#8, "CMP", .zp, 3, false, [z]⟩
  | .cmpImm i => ⟨0xC9#8, "CMP", .imm, 2, false, [i]⟩
  | .cmpAbs a => ⟨0xCD#8, "CMP", .abs, 4, false, [lo a, hi a]⟩
  | .cmpIzy z => ⟨0xD1#8, "CMP", .izy, 5, true, [z]⟩
  | .cmpZpx z => ⟨0xD5#8, "CMP", .zpx, 4, false, [z]⟩
  | .cmpAby a => ⟨0xD9#8, "CMP", .aby, 4, true, [lo a, hi a]⟩
  | .cmpAbx a => ⟨0xDD#8, "CMP", .abx, 4, true, [lo a, hi a]⟩
  | .cpxImm i => ⟨0xE0#8, "CPX", .imm, 2, false, [i]⟩
  | .cpxZp z => ⟨0xE4#8, "CPX", .zp, 3, false, [z]⟩
  | .cpxAbs a => ⟨0xEC#8, "CPX", .abs, 4, false, [lo a, hi a]⟩
  | .cpyImm i => ⟨0xC0#8, "CPY", .imm, 2, false, [i]⟩
  | .cpyZp z => ⟨0xC4#8, "CPY", .zp, 3, false, [z]⟩
  | .cpyAbs a => ⟨0xCC#8, "CPY", .abs, 4, false, [lo a, hi a]⟩
  | .incZp z => ⟨0xE6#8, "INC", .zp, 5, false, [z]⟩
  | .incAbs a => ⟨0xEE#8, "INC", .abs, 6, false, [lo a, hi a]⟩
  | .incZpx z => ⟨0xF6#8, "INC", .zpx, 6, false, [z]⟩
  | .incAbx a => ⟨0xFE#8, "INC", .abx, 7, false, [lo a, hi a]⟩
  | .decZp z => ⟨0xC6#8, "DEC", .zp, 5, false, [z]⟩
  | .decAbs a => ⟨0xCE#8, "DEC", .abs, 6, false, [lo a, hi a]⟩
  | .decZpx z => ⟨0xD6#8, "DEC", .zpx, 6, false, [z]⟩
  | .decAbx a => ⟨0xDE#8, "DEC", .abx, 7, false, [lo a, hi a]⟩
  | .inx => ⟨0xE8#8, "INX", .imp, 2, false, []⟩
  | .iny => ⟨0xC8#8, "INY", .imp, 2, false, []⟩
  | .dex => ⟨0xCA#8, "DEX", .imp, 2, false, []⟩
  | .dey => ⟨0x88#8, "DEY", .imp, 2, false, []⟩
  | .aslZp z => ⟨0x06#8, "ASL", .zp, 5, false, [z]⟩
  | .aslAcc => ⟨0x0A#8, "ASL", .acc, 2, false, []⟩
  | .aslAbs a => ⟨0x0E#8, "ASL", .abs, 6, false, [lo a, hi a]⟩
  | .aslZpx z => ⟨0x16#8, "ASL", .zpx, 6, false, [z]⟩
  | .aslAbx a => ⟨0x1E#8, "ASL", .abx, 7, false, [lo a, hi a]⟩
  | .lsrZp z => ⟨0x46#8, "LSR", .zp, 5, false, [z]⟩
  | .lsrAcc => ⟨0x4A#8, "LSR", .acc, 2, false, []⟩
  | .lsrAbs a => ⟨0x4E#8, "LSR", .abs, 6, false, [lo a, hi a]⟩
  | .lsrZpx z => ⟨0x56#8, "LSR", .zpx, 6, false, [z]⟩
  | .lsrAbx a => ⟨0x5E#8, "LSR", .abx, 7, false, [lo a, hi a]⟩
  | .rolZp z => ⟨0x26#8, "ROL", .zp, 5, false, [z]⟩
  | .rolAcc => ⟨0x2A#8, "ROL", .acc, 2, false, []⟩
  | .rolAbs a => ⟨0x2E#8, "ROL", .abs, 6, false, [lo a, hi a]⟩
  | .rolZpx z => ⟨0x36#8, "ROL", .zpx, 6, false, [z]⟩
  | .rolAbx a => ⟨0x3E#8, "ROL", .abx, 7, false, [lo a, hi a]⟩
  | .rorZp z => ⟨0x66#8, "ROR", .zp, 5, false, [z]⟩
  | .rorAcc => ⟨0x6A#8, "ROR", .acc, 2, false, []⟩
  | .rorAbs a => ⟨0x6E#8, "ROR", .abs, 6, false, [lo a, hi a]⟩
  | .rorZpx z => ⟨0x76#8, "ROR", .zpx, 6, false, [z]⟩
  | .rorAbx a => ⟨0x7E#8, "ROR", .abx, 7, false, [lo a, hi a]⟩
  | .bpl o => ⟨0x10#8, "BPL", .rel, 2, false, [o]⟩
  | .bmi o => ⟨0x30#8, "BMI", .rel, 2, false, [o]⟩
  | .bvc o => ⟨0x50#8, "BVC", .rel, 2, false, [o]⟩
  | .bvs o => ⟨0x70#8, "BVS", .rel, 2, false, [o]⟩
  | .bcc o => ⟨0x90#8, "BCC", .rel, 2, false, [o]⟩
  | .bcs o => ⟨0xB0#8, "BCS", .rel, 2, false, [o]⟩
  | .bne o => ⟨0xD0#8, "BNE", .rel, 2, false, [o]⟩
  | .beq o => ⟨0xF0#8, "BEQ", .rel, 2, false, [o]⟩
  | .jmpAbs a => ⟨0x4C#8, "JMP", .abs, 3, false, [lo a, hi a]⟩
  | .jmpInd a => ⟨0x6C#8, "JMP", .ind, 5, false, [lo a, hi a]⟩
  | .jsrAbs a => ⟨0x20#8, "JSR", .abs, 6, false, [lo a, hi a]⟩
  | .rts => ⟨0x60#8, "RTS", .imp, 6, false, []⟩
  | .brk => ⟨0x00#8, "BRK", .imp, 7, false, []⟩
  | .rti => ⟨0x40#8, "RTI", .imp, 6, false, []⟩
  | .clc => ⟨0x18#8, "CLC", .imp, 2, false, []⟩
  | .sec => ⟨0x38#8, "SEC", .imp, 2, false, []⟩
  | .cli => ⟨0x58#8, "CLI", .imp, 2, false, []⟩
  | .sei => ⟨0x78#8, "SEI", .imp, 2, false, []⟩
  | .clv => ⟨0xB8#8, "CLV", .imp, 2, false, []⟩
  | .cld => ⟨0xD8#8, "CLD", .imp, 2, false, []⟩
  | .sed => ⟨0xF8#8, "SED", .imp, 2, false, []⟩
  | .nop => ⟨0xEA#8, "NOP", .imp, 2, false, []⟩
  | .sbcImmEB i => ⟨0xEB#8, "SBC", .imm, 2, false, [i]⟩
  | .nopZp04 z => ⟨0x04#8, "NOP", .zp, 3, false, [z]⟩
  | .nopAbs a => ⟨0x0C#8, "NOP", .abs, 4, false, [lo a, hi a]⟩
  | .nopZpx14 z => ⟨0x14#8, "NOP", .zpx, 4, false, [z]⟩
  | .nop1A => ⟨0x1A#8, "NOP", .imp, 2, false, []⟩
  | .nopAbx1C a => ⟨0x1C#8, "NOP", .abx, 4, true, [lo a, hi a]⟩
  | .nopZpx34 z => ⟨0x34#8, "NOP", .zpx, 4, false, [z]⟩
  | .nop3A => ⟨0x3A#8, "NOP", .imp, 2, false, []⟩
  | .nopAbx3C a => ⟨0x3C#8, "NOP", .abx, 4, true, [lo a, hi a]⟩
  | .nopZp44 z => ⟨0x44#8, "NOP", .zp, 3, false, [z]⟩
  | .nopZpx54 z => ⟨0x54#8, "NOP", .zpx, 4, false, [z]⟩
  | .nop5A => ⟨0x5A#8, "NOP", .imp, 2, false, []⟩
  | .nopAbx5C a => ⟨0x5C#8, "NOP", .abx, 4, true, [lo a, hi a]⟩
  | .nopZp64 z => ⟨0x64#8, "NOP", .zp, 3, false, [z]⟩
  | .nopZpx74 z => ⟨0x74#8, "NOP", .zpx, 4, false, [z]⟩
  | .nop7A => ⟨0x7A#8, "NOP", .imp, 2, false, []⟩
  | .nopAbx7C a => ⟨0x7C#8, "NOP", .abx, 4, true, [lo a, hi a]⟩
  | .nopImm80 i => ⟨0x80#8, "NOP", .imm, 2, false, [i]⟩
  | .nopImm82 i => ⟨0x82#8, "NOP", .imm, 2, false, [i]⟩
  | .nopImm89 i => ⟨0x89#8, "NOP", .imm, 2, false, [i]⟩
  | .nopImmC2 i => ⟨0xC2#8, "NOP", .imm, 2, false, [i]⟩
  | .nopZpxD4 z => ⟨0xD4#8, "NOP", .zpx, 4, false, [z]⟩
  | .nopDA => ⟨0xDA#8, "NOP", .imp, 2, false, []⟩
  | .nopAbxDC a => ⟨0xDC#8, "NOP", .abx, 4, true, [lo a, hi a]⟩
  | .nopImmE2 i => ⟨0xE2#8, "NOP", .imm, 2, false, [i]⟩
  | .nopZpxF4 z => ⟨0xF4#8, "NOP", .zpx, 4, false, [z]⟩
  | .nopFA => ⟨0xFA#8, "NOP", .imp, 2, false, []⟩
  | .nopAbxFC a => ⟨0xFC#8, "NOP", .abx, 4, true, [lo a, hi a]⟩
  | .sloIzx z => ⟨0x03#8, "SLO", .izx, 8, false, [z]⟩
  | .sloZp z => ⟨0x07#8, "SLO", .zp, 5, false, [z]⟩
  | .sloAbs a => ⟨0x0F#8, "SLO", .abs, 6, false, [lo a, hi a]⟩
  | .sloIzy z => ⟨0x13#8, "SLO", .izy, 8, false, [z]⟩
  | .sloZpx z => ⟨0x17#8, "SLO", .zpx, 6, false, [z]⟩
  | .sloAby a => ⟨0x1B#8, "SLO", .aby, 7, false, [lo a, hi a]⟩
  | .sloAbx a => ⟨0x1F#8, "SLO", .abx, 7, false, [lo a, hi a]⟩
  | .rlaIzx z => ⟨0x23#8, "RLA", .izx, 8, false, [z]⟩
  | .rlaZp z => ⟨0x27#8, "RLA", .zp, 5, false, [z]⟩
  | .rlaAbs a => ⟨0x2F#8, "RLA", .abs, 6, false, [lo a, hi a]⟩
  | .rlaIzy z => ⟨0x33#8, "RLA", .izy, 8, false, [z]⟩
  | .rlaZpx z => ⟨0x37#8, "RLA", .zpx, 6, false, [z]⟩
  | .rlaAby a => ⟨0x3B#8, "RLA", .aby, 7, false, [lo a, hi a]⟩
  | .rlaAbx a => ⟨0x3F#8, "RLA", .abx, 7, false, [lo a, hi a]⟩
  | .sreIzx z => ⟨0x43#8, "SRE", .izx, 8, false, [z]⟩
  | .sreZp z => ⟨0x47#8, "SRE", .zp, 5, false, [z]⟩
  | .sreAbs a => ⟨0x4F#8, "SRE", .abs, 6, false, [lo a, hi a]⟩
  | .sreIzy z => ⟨0x53#8, "SRE", .izy, 8, false, [z]⟩
  | .sreZpx z => ⟨0x57#8, "SRE", .zpx, 6, false, [z]⟩
  | .sreAby a => ⟨0x5B#8, "SRE", .aby, 7, false, [lo a, hi a]⟩
  | .sreAbx a => ⟨0x5F#8, "SRE", .abx, 7, false, [lo a, hi a]⟩
  | .rraIzx z => ⟨0x63#8, "RRA", .izx, 8, false, [z]⟩
  | .rraZp z => ⟨0x67#8, "RRA", .zp, 5, false, [z]⟩
  | .rraAbs a => ⟨0x6F#8, "RRA", .abs, 6, false, [lo a, hi a]⟩
  | .rraIzy z => ⟨0x73#8, "RRA", .izy, 8, false, [z]⟩
  | .rraZpx z => ⟨0x77#8, "RRA", .zpx, 6, false, [z]⟩
  | .rraAby a => ⟨0x7B#8, "RRA", .aby, 7, false, [lo a, hi a]⟩
  | .rraAbx a => ⟨0x7F#8, "RRA", .abx, 7, false, [lo a, hi a]⟩
  | .dcpIzx z => ⟨0xC3#8, "DCP", .izx, 8, false, [z]⟩
  | .dcpZp z => ⟨0xC7#8, "DCP", .zp, 5, false, [z]⟩
  | .dcpAbs a => ⟨0xCF#8, "DCP", .abs, 6, false, [lo a, hi a]⟩
  | .dcpIzy z => ⟨0xD3#8, "DCP", .izy, 8, false, [z]⟩
  | .dcpZpx z => ⟨0xD7#8, "DCP", .zpx, 6, false, [z]⟩
  | .dcpAby a => ⟨0xDB#8, "DCP", .aby, 7, false, [lo a, hi a]⟩
  | .dcpAbx a => ⟨0xDF#8, "DCP", .abx, 7, false, [lo a, hi a]⟩
  | .isbIzx z => ⟨0xE3#8, "ISB", .izx, 8, false, [z]⟩
  | .isbZp z => ⟨0xE7#8, "ISB", .zp, 5, false, [z]⟩
  | .isbAbs a => ⟨0xEF#8, "ISB", .abs, 6, false, [lo a, hi a]⟩
  | .isbIzy z => ⟨0xF3#8, "ISB", .izy, 8, false, [z]⟩
  | .isbZpx z => ⟨0xF7#8, "ISB", .zpx, 6, false, [z]⟩
  | .isbAby a => ⟨0xFB#8, "ISB", .aby, 7, false, [lo a, hi a]⟩
  | .isbAbx a => ⟨0xFF#8, "ISB", .abx, 7, false, [lo a, hi a]⟩
  | .laxIzx z => ⟨0xA3#8, "LAX", .izx, 6, false, [z]⟩
  | .laxZp z => ⟨0xA7#8, "LAX", .zp, 3, false, [z]⟩
  | .laxAbs a => ⟨0xAF#8, "LAX", .abs, 4, false, [lo a, hi a]⟩
  | .laxIzy z => ⟨0xB3#8, "LAX", .izy, 5, true, [z]⟩
  | .laxZpy z => ⟨0xB7#8, "LAX", .zpy, 4, false, [z]⟩
  | .laxAby a => ⟨0xBF#8, "LAX", .aby, 4, true, [lo a, hi a]⟩
  | .saxIzx z => ⟨0x83#8, "SAX", .izx, 6, false, [z]⟩
  | .saxZp z => ⟨0x87#8, "SAX", .zp, 3, false, [z]⟩
  | .saxAbs a => ⟨0x8F#8, "SAX", .abs, 4, false, [lo a, hi a]⟩
  | .saxZpy z => ⟨0x97#8, "SAX", .zpy, 4, false, [z]⟩
  | .aacImm0B i => ⟨0x0B#8, "AAC", .imm, 2, false, [i]⟩
  | .aacImm2B i => ⟨0x2B#8, "AAC", .imm, 2, false, [i]⟩
  | .asrImm i => ⟨0x4B#8, "ASR", .imm, 2, false, [i]⟩
  | .arrImm i => ⟨0x6B#8, "ARR", .imm, 2, false, [i]⟩
  | .axsImm i => ⟨0xCB#8, "AXS", .imm, 2, false, [i]⟩
  | .aneImm i => ⟨0x8B#8, "ANE", .imm, 2, false, [i]⟩
  | .lxaImm i => ⟨0xAB#8, "LXA", .imm, 2, false, [i]⟩
  | .shaIzy z => ⟨0x93#8, "SHA", .izy, 6, false, [z]⟩
  | .shaAby a => ⟨0x9F#8, "SHA", .aby, 5, false, [lo a, hi a]⟩
  | .shxAby a => ⟨0x9E#8, "SHX", .aby, 5, false, [lo a, hi a]⟩
  | .shyAbx a => ⟨0x9C#8, "SHY", .abx, 5, false, [lo a, hi a]⟩
  | .tasAby a => ⟨0x9B#8, "TAS", .aby, 5, false, [lo a, hi a]⟩
  | .lasAby a => ⟨0xBB#8, "LAS", .aby, 4, true, [lo a, hi a]⟩
  | .kil02 => ⟨0x02#8, "KIL", .imp, 2, false, []⟩
  | .kil12 => ⟨0x12#8, "KIL", .imp, 2, false, []⟩
  | .kil22 => ⟨0x22#8, "KIL", .imp, 2, false, []⟩
  | .kil32 => ⟨0x32#8, "KIL", .imp, 2, false, []⟩
  | .kil42 => ⟨0x42#8, "KIL", .imp, 2, false, []⟩
  | .kil52 => ⟨0x52#8, "KIL", .imp, 2, false, []⟩
  | .kil62 => ⟨0x62#8, "KIL", .imp, 2, false, []⟩
  | .kil72 => ⟨0x72#8, "KIL", .imp, 2, false, []⟩
  | .kil92 => ⟨0x92#8, "KIL", .imp, 2, false, []⟩
  | .kilB2 => ⟨0xB2#8, "KIL", .imp, 2, false, []⟩
  | .kilD2 => ⟨0xD2#8, "KIL", .imp, 2, false, []⟩
  | .kilF2 => ⟨0xF2#8, "KIL", .imp, 2, false, []⟩

/-- The instruction's bytes (R70, R72). -/
def encode (i : Instr) : List Byte := i.row.opcode :: i.row.operands

/-- An instruction is well formed when its row is a legal row of the table. -/
def Instr.wellFormed (i : Instr) : Bool := i.row.wellFormed

/-- Byte `k` of a number that numbers an instruction's bits as spec/opcode_table.json does. -/
def tableByte (w k : Nat) : Byte := BitVec.ofNat 8 (w / 256 ^ k)

/-- The bytes of a table word: the bits above `nbits` are 0, up to the longest instruction. -/
def tableBytes (nbits w : Nat) : List Byte :=
  [tableByte (w % 2 ^ nbits) 0, tableByte (w % 2 ^ nbits) 1, tableByte (w % 2 ^ nbits) 2]

/-- The instruction the decoder reads from a table word. -/
def decodeTableWord (nbits w : Nat) : Option Instr :=
  match decode (tableBytes nbits w) with
  | .ok (i, _) => some i
  | .error _ => none

end Sys2Proof
end

