-- ==== Sys2Proof/Machine/Fetch.lean ====
section
/-! DEFINITION. Fetching an instruction through the bus (R82, R85, R86), and placing one where the next
fetch finds it. -/

namespace Sys2Proof.Machine

/-- Read the byte at PC with its side effects and move PC past it (R85). -/
def fetchByte (s : State) : Byte × State :=
  let m := busRead s.cpu.pc s
  (m.1, m.2.mapCpu fun c => { c with pc := c.pc + 1#16 })

/-- Fetch `k` bytes in address order. -/
def fetchBytes (k : Nat) (s : State) : List Byte × State :=
  match k with
  | 0 => ([], s)
  | k + 1 =>
    let b := fetchByte s
    let rest := fetchBytes k b.2
    (b.1 :: rest.1, rest.2)

/-- Fetch the opcode and then its operand bytes: the instruction, and the state with PC at the next
sequential instruction (R20, R85; log entry 11). -/
def fetchInstr (s : State) : Instr × State :=
  let op := fetchByte s
  let rest := fetchBytes (operandCount op.1) op.2
  (decodeWith op.1 (rest.1.getD 0 0#8) (rest.1.getD 1 0#8), rest.2)

/-! ### Placing an instruction -/

/-- Whether a byte can be placed at a CPU address so that a fetch there finds it and does nothing else:
RAM, or the window a cartridge image answers. -/
def placeable (s : State) (a : Addr) : Bool := a.ult 0x2000#16 || cartridgeAnswers s.launch a

/-- Put a byte at a CPU address as a loader would: into RAM, or into the cartridge's image. -/
def placeByte (a : Addr) (v : Byte) (s : State) : State :=
  if a.ult 0x2000#16 then { s with bus := { s.bus with ram := s.bus.ram.put (ramCell a) v } }
  else { s with cart := { s.cart with prg := s.cart.prg.put a.toNat v } }

/-- A cartridge whose answers are the bytes of its images. -/
def Cartridge.asImage (c : Cartridge) : Cartridge :=
  match c.kind with
  | .image _ _ => c
  | .free => { c with kind := .image false false }

/-- Put three bytes where the next fetch reads: at PC, or, when a byte there could not be placed, at
$8000 with PC moved there (log entry 21). -/
def placeAtPc (b0 b1 b2 : Byte) (s : State) : State :=
  let pc := s.cpu.pc
  let here := placeable s pc && placeable s (pc + 1#16) && placeable s (pc + 2#16)
  let at0 := if here then pc else 0x8000#16
  let inCart := !(at0.ult 0x2000#16 && (at0 + 1#16).ult 0x2000#16 && (at0 + 2#16).ult 0x2000#16)
  let s1 := if here then s else s.setPc at0
  let s2 := if inCart then { s1 with cart := s1.cart.asImage } else s1
  placeByte at0 b0 (placeByte (at0 + 1#16) b1 (placeByte (at0 + 2#16) b2 s2))

/-- Make the next tick an instruction fetch: the CPU due, not jammed, no DMA stall to take, no interrupt
that the check would enter (R82). -/
def readyToFetch (s : State) : State :=
  { s with
    cpu := { s.cpu with next := s.cpu.cycl, jammed := false }
    bus := { s.bus with
      oamDmaCpu := false, nmiSignal := false, irqLine := s.bus.irqLine && s.cpu.i } }

end Sys2Proof.Machine
end

