-- ==== Sys2Proof/Machine/Scroll.lean ====
section
/-! DEFINITION. The fields of the scroll registers `v` and `t` (R35) and the scroll updates of the
pipeline (R213-R216). -/

namespace Sys2Proof.Machine

/-- `coarse_x`, bits 4:0 (R35). -/
def coarseX (v : Addr) : BitVec 5 := v.extractLsb' 0 5
/-- `coarse_y`, bits 9:5 (R35). -/
def coarseY (v : Addr) : BitVec 5 := v.extractLsb' 5 5
/-- `nametable_x`, bit 10 (R35, C1). -/
def nametableX (v : Addr) : BitVec 1 := v.extractLsb' 10 1
/-- `nametable_y`, bit 11 (R35, C1). -/
def nametableY (v : Addr) : BitVec 1 := v.extractLsb' 11 1
/-- `fine_y`, bits 14:12 (R35). -/
def fineY (v : Addr) : BitVec 3 := v.extractLsb' 12 3

/-- A scroll register from its fields; bit 15 is 0 (R35). -/
def scrollOf (fy : BitVec 3) (ny nx : BitVec 1) (cy cx : BitVec 5) : Addr :=
  0#1 ++ fy ++ ny ++ nx ++ cy ++ cx

/-- `IncX()`: coarse X with wraparound into the horizontal nametable bit (R213). -/
def incX (v : Addr) : Addr :=
  if coarseX v = 31#5 then scrollOf (fineY v) (nametableY v) (~~~ nametableX v) (coarseY v) 0#5
  else scrollOf (fineY v) (nametableY v) (nametableX v) (coarseY v) (coarseX v + 1#5)

/-- `IncY()`: fine Y with carry into coarse Y; coarse Y goes from 29 to 0 with a flip of the vertical
nametable bit and from 31 to 0 without one (R214). -/
def incY (v : Addr) : Addr :=
  if fineY v ≠ 7#3 then
    scrollOf (fineY v + 1#3) (nametableY v) (nametableX v) (coarseY v) (coarseX v)
  else if coarseY v = 29#5 then scrollOf 0#3 (~~~ nametableY v) (nametableX v) 0#5 (coarseX v)
  else if coarseY v = 31#5 then scrollOf 0#3 (nametableY v) (nametableX v) 0#5 (coarseX v)
  else scrollOf 0#3 (nametableY v) (nametableX v) (coarseY v + 1#5) (coarseX v)

/-- `CopyH()`: bits 10 and 4:0 of `v` are taken from `t` (R215). -/
def copyH (v t : Addr) : Addr := (v &&& ~~~ 0x041F#16) ||| (t &&& 0x041F#16)

/-- `CopyV()`: bits 14:12, 11 and 9:5 of `v` are taken from `t` (R216). -/
def copyV (v t : Addr) : Addr := (v &&& ~~~ 0x7BE0#16) ||| (t &&& 0x7BE0#16)

end Sys2Proof.Machine
end

