-- ==== Sys2Proof/Machine/Pipeline.lean ====
section
/-! DEFINITION. The PPU's scanline and dot pipeline (49_ppu_pipeline.md): one dot's work per PPU clock,
in the order of R207. -/

namespace Sys2Proof.Machine

/-! ### Control and mask fields (R31, R32) -/

/-- `sprite_table`, PPUCTRL bit 3. -/
def Ppu.spriteTable (p : Ppu) : Bool := p.ctrl.getLsbD 3
/-- `bg_table`, PPUCTRL bit 4. -/
def Ppu.bgTable (p : Ppu) : Bool := p.ctrl.getLsbD 4
/-- `sprite_size`, PPUCTRL bit 5: 8x16 sprites when set. -/
def Ppu.spriteSize (p : Ppu) : Bool := p.ctrl.getLsbD 5
/-- `show_bg_left`, PPUMASK bit 1. -/
def Ppu.showBgLeft (p : Ppu) : Bool := p.mask.getLsbD 1
/-- `show_sprites_left`, PPUMASK bit 2. -/
def Ppu.showSpritesLeft (p : Ppu) : Bool := p.mask.getLsbD 2
/-- `show_bg`, PPUMASK bit 3. -/
def Ppu.showBg (p : Ppu) : Bool := p.mask.getLsbD 3
/-- `show_sprites`, PPUMASK bit 4. -/
def Ppu.showSprites (p : Ppu) : Bool := p.mask.getLsbD 4

/-- "Rendering is enabled" (R206). -/
def Ppu.rendering (p : Ppu) : Bool := p.showBg || p.showSprites

/-- A visible scanline, 0 to 239 (R17). -/
def Ppu.visible (p : Ppu) : Bool := decide (p.scanline ≤ 239)

/-- The pre-render scanline, 261 (R17). -/
def Ppu.preRender (p : Ppu) : Bool := p.scanline == 261

/-- A dot that outputs a pixel: 1 to 256 of a visible scanline (R207). -/
def Ppu.onPixel (p : Ppu) : Bool := p.visible && decide (1 ≤ p.dot) && decide (p.dot ≤ 256)

/-- A dot of the background's fetch ranges, 1-256 and 321-336 (R217, R221). -/
def Ppu.onFetchDot (p : Ppu) : Bool :=
  (decide (1 ≤ p.dot) && decide (p.dot ≤ 256)) || (decide (321 ≤ p.dot) && decide (p.dot ≤ 336))

/-! ### OAM-DMA -/

/-- Byte `i` of the copy: the bus read, then the store at `(oam_addr + i) & 0xFF` (R64; the order inside
the assignment: log entry 16). -/
def dmaByte (i : Nat) (s : State) : State :=
  let m := busRead (s.bus.oamDmaAddr + BitVec.ofNat 16 i) s
  m.2.mapPpu fun p => { p with oam := p.oam.put (p.oamAddr + BitVec.ofNat 8 i).toNat m.1 }

/-- The bytes `i`, `i + 1`, ... of the copy, `k` of them. -/
def dmaBytes (k i : Nat) (s : State) : State :=
  match k with
  | 0 => s
  | k + 1 => dmaBytes k (i + 1) (dmaByte i s)

/-- `DmaDrain()`: the PPU's half of the handshake, one atomic copy of 256 bytes (R64, D19). -/
def dmaDrain (s : State) : State :=
  if s.bus.oamDmaPpu then
    let s1 := dmaBytes 256 0 s
    { s1 with bus := { s1.bus with oamDmaPpu := false } }
  else s

/-! ### Flags at fixed dots -/

/-- `PreRenderClear()` (R210). -/
def Ppu.preRenderClear (p : Ppu) : Ppu :=
  { p with vblank := false, sprite0Hit := false, spriteOverflow := false, nmiOccurred := false }

/-- `VblankStart()` (R211). -/
def vblankStart (s : State) : State :=
  { s with
    ppu := { s.ppu with vblank := true, nmiOccurred := true }
    bus := { s.bus with nmiSignal := s.bus.nmiSignal || s.ppu.nmiEnable } }

/-- `Advance()` (R208): the next dot, line and frame. `frame_ready` is set at the wrap to scanline 0, dot 0, so
the next frame's first pixel is the next dot's; R262 puts that pixel about a vblank later (log entry 22). -/
def Ppu.advance (p : Ppu) : Ppu :=
  if p.dot + 1 = 341 then
    if p.scanline + 1 = 262 then
      { p with dot := 0, scanline := 0, oddFrame := !p.oddFrame, frameReady := true }
    else { p with dot := 0, scanline := p.scanline + 1 }
  else { p with dot := p.dot + 1 }

/-- The odd-frame skip: dot 0 of line 0 of an odd frame is passed over while rendering (R209). -/
def Ppu.oddSkip (p : Ppu) : Ppu :=
  if p.scanline = 0 ∧ p.dot = 0 ∧ p.oddFrame = true ∧ p.rendering = true then { p with dot := 1 }
  else p

/-! ### Background -/

/-- `LoadShifters()`: the next latches go into the low bytes of the shifters (R220). -/
def Ppu.loadShifters (p : Ppu) : Ppu :=
  let low (sh : Addr) (b : Byte) : Addr := (sh &&& 0xFF00#16) ||| zext16 b
  let spread (b : Bool) : Byte := if b then 0xFF#8 else 0x00#8
  { p with
    shPatLo := low p.shPatLo p.bgNextLo
    shPatHi := low p.shPatHi p.bgNextHi
    shAttrLo := low p.shAttrLo (spread (p.bgNextAttr.getLsbD 0))
    shAttrHi := low p.shAttrHi (spread (p.bgNextAttr.getLsbD 1)) }

/-- The address of the nametable byte that `v` selects (R217). -/
def nametableAddr (v : Addr) : Addr := 0x2000#16 ||| (v &&& 0x0FFF#16)

/-- The address of the attribute byte that `v` selects (R218). -/
def attributeAddr (v : Addr) : Addr :=
  0x23C0#16 ||| (v &&& 0x0C00#16) ||| (((coarseY v).setWidth 16 >>> 2) <<< 3) |||
    ((coarseX v).setWidth 16 >>> 2)

/-- The 2-bit quadrant of an attribute byte, by bit 1 of coarse Y and of coarse X (R218). -/
def attributeBits (v : Addr) (a : Byte) : BitVec 2 :=
  let a1 := if (coarseY v).getLsbD 1 then a >>> 4 else a
  let a2 := if (coarseX v).getLsbD 1 then a1 >>> 2 else a1
  a2.setWidth 2

/-- `PatternAddr(k)`: k = 0 for the low plane and 8 for the high plane (R219). -/
def Ppu.patternAddr (p : Ppu) (k : Addr) : Addr :=
  (if p.bgTable then 0x1000#16 else 0x0000#16) + (zext16 p.bgNextTileId <<< 4) +
    (fineY p.v).setWidth 16 + k

/-- The shifter load of phase 0 (R217). With rendering off the shifters keep their contents (R231; log entry
17). -/
def Ppu.reloadShifters (p : Ppu) : Ppu := if p.rendering then p.loadShifters else p

/-- `BackgroundFetch()`, by `phase = (dot - 1) mod 8` (R217). -/
def backgroundFetch (s : State) : State :=
  if s.ppu.onFetchDot then
    match (s.ppu.dot - 1) % 8 with
    | 0 => s.mapPpu fun p =>
        { p.reloadShifters with bgNextTileId := ppuRead (nametableAddr p.v) s }
    | 2 => s.mapPpu fun p =>
        { p with bgNextAttr := attributeBits p.v (ppuRead (attributeAddr p.v) s) }
    | 4 => s.mapPpu fun p => { p with bgNextLo := ppuRead (p.patternAddr 0#16) s }
    | 6 => s.mapPpu fun p => { p with bgNextHi := ppuRead (p.patternAddr 8#16) s }
    | 7 => if s.ppu.rendering then s.mapPpu fun p => { p with v := incX p.v } else s
    | _ => s
  else s

/-- `BackgroundShift()` (R221). -/
def Ppu.backgroundShift (p : Ppu) : Ppu :=
  if p.onFetchDot && p.showBg then
    { p with
      shPatLo := p.shPatLo <<< 1
      shPatHi := p.shPatHi <<< 1
      shAttrLo := p.shAttrLo <<< 1
      shAttrHi := p.shAttrHi <<< 1 }
  else p

/-! ### Sprites -/

/-- The height of a sprite (R222). -/
def Ppu.spriteHeight (p : Ppu) : Nat := if p.spriteSize then 16 else 8

/-- OAM entry `n` (R37). -/
def Ppu.oamSprite (p : Ppu) (n : Nat) : Sprite :=
  ⟨p.oam.get (4 * n), p.oam.get (4 * n + 1), p.oam.get (4 * n + 2), p.oam.get (4 * n + 3)⟩

/-- Whether a sprite with the OAM coordinate `y` is in range of the present line:
`0 <= scanline - y < h` (R222). -/
def Ppu.inRange (p : Ppu) (y : Byte) : Bool :=
  decide (y.toNat ≤ p.scanline) && decide (p.scanline < y.toNat + p.spriteHeight)

/-- The scan over OAM entries `n`, `n + 1`, ..., `k` of them: up to 8 in range are staged, and the ninth
sets sprite overflow and ends the scan (R222). -/
def Ppu.scanOam (k n : Nat) (p : Ppu) : Ppu :=
  match k with
  | 0 => p
  | k + 1 =>
    if p.inRange (p.oam.get (4 * n)) then
      if p.nextCount < 8 then
        Ppu.scanOam k (n + 1) { p with
          nextSprites := p.nextSprites.set p.nextCount (p.oamSprite n)
          nextSprite0 := p.nextSprite0 || n == 0
          nextCount := p.nextCount + 1 }
      else { p with spriteOverflow := true }
    else Ppu.scanOam k (n + 1) p

/-- `SpriteEvaluate()` (R222). -/
def Ppu.spriteEvaluate (p : Ppu) : Ppu :=
  Ppu.scanOam 64 0 { p with nextCount := 0, nextSprite0 := false }

/-- The current slots after the transfer: every slot takes its sprite from the next buffer, and the
slots below `count` load their X counter (R223). -/
def transferSlots (count : Nat) (next : List Sprite) (cur : List SpriteSlot) : List SpriteSlot :=
  match next, cur with
  | sp :: next, slot :: cur =>
    { slot with sprite := sp, x := if 0 < count then sp.x else slot.x } ::
      transferSlots (count - 1) next cur
  | _, rest => rest

/-- `SpriteTransfer()` (R223). -/
def Ppu.spriteTransfer (p : Ppu) : Ppu :=
  { p with
    curSprites := transferSlots p.nextCount p.nextSprites p.curSprites
    curCount := p.nextCount
    curSprite0 := p.nextSprite0
    nextCount := 0
    nextSprite0 := false }

/-- The pattern address of a sprite's low plane on the present line, 8x8 and 8x16 (R224). The row
`scanline - y` is a 16-bit number that wraps (R12; log entry 14). -/
def Ppu.spriteAddr (p : Ppu) (sp : Sprite) : Addr :=
  let row := BitVec.ofNat 16 p.scanline - zext16 sp.y
  let flip := sp.attr.getLsbD 7
  if p.spriteSize then
    let r := if flip then 15#16 - row else row
    let tile := zext16 (sp.tile &&& 0xFE#8) + (if (8#16).ule r then 1#16 else 0#16)
    (zext16 (sp.tile &&& 1#8) <<< 12) + (tile <<< 4) + (r &&& 7#16)
  else
    let r := if flip then 7#16 - row else row
    (if p.spriteTable then 0x1000#16 else 0x0000#16) + (zext16 sp.tile <<< 4) + r

/-- A sprite's pattern byte at `addr`, its bits reversed for a horizontal flip (R224). -/
def spriteByte (sp : Sprite) (addr : Addr) (s : State) : Byte :=
  if sp.attr.getLsbD 6 then reverse8 (ppuRead addr s) else ppuRead addr s

/-- Slot `i` with its pattern bytes fetched; a slot past the count is made transparent (R224). -/
def fetchSlot (i : Nat) (slot : SpriteSlot) (s : State) : SpriteSlot :=
  if i < s.ppu.curCount then
    let addr := s.ppu.spriteAddr slot.sprite
    { slot with
      lo := spriteByte slot.sprite addr s
      hi := spriteByte slot.sprite (addr + 8#16) s }
  else { slot with lo := 0#8, hi := 0#8 }

/-- `SpriteFetch(i)` (R224). -/
def spriteFetch (i : Nat) (s : State) : State :=
  s.mapPpu fun p => { p with curSprites := p.curSprites.modify i fun slot => fetchSlot i slot s }

/-- The X counter of an active slot counts down to 0, and then its pattern bytes shift (R225). -/
def SpriteSlot.shift (slot : SpriteSlot) : SpriteSlot :=
  if slot.x = 0#8 then { slot with lo := slot.lo <<< 1, hi := slot.hi <<< 1 }
  else { slot with x := slot.x - 1#8 }

/-- The first `count` slots shift, the others stay (R225). -/
def shiftSlots (count : Nat) (slots : List SpriteSlot) : List SpriteSlot :=
  (slots.take count).map SpriteSlot.shift ++ slots.drop count

/-- `SpriteShift()` (R225). -/
def Ppu.spriteShift (p : Ppu) : Ppu :=
  if p.showSprites then { p with curSprites := shiftSlots p.curCount p.curSprites } else p

/-! ### Pixels -/

/-- The screen column of the present dot, `x = dot - 1` (49_ppu_pipeline.md section 5). -/
def Ppu.column (p : Ppu) : Nat := p.dot - 1

/-- Whether column `x` is shown, given the left-column bit of PPUMASK (R226, R227, D34). -/
def columnShown (leftClip showLeft : Bool) (x : Nat) : Bool := decide (8 ≤ x) || showLeft || !leftClip

/-- Two bits as a number. -/
def twoBits (high low : Bool) : BitVec 2 := (if high then 2#2 else 0#2) ||| (if low then 1#2 else 0#2)

/-- The background's pixel and palette (R226). -/
def Ppu.backgroundPixel (leftClip : Bool) (p : Ppu) : BitVec 2 × BitVec 2 :=
  if p.showBg && columnShown leftClip p.showBgLeft p.column then
    let bitOf (sh : Addr) : Bool := sh.getLsbD (15 - p.fineX.toNat)
    (twoBits (bitOf p.shPatHi) (bitOf p.shPatLo), twoBits (bitOf p.shAttrHi) (bitOf p.shAttrLo))
  else (0#2, 0#2)

/-- A sprite pixel: its colour, its sprite palette, its priority bit and its slot (R227). -/
structure SpritePixel where
  px : BitVec 2
  pal : BitVec 2
  behind : Bool
  slot : Nat
  deriving DecidableEq, Repr

/-- The first slot, from `i` on, whose counter is 0 and whose pixel is opaque (R227). -/
def firstOpaque (i : Nat) (slots : List SpriteSlot) : Option SpritePixel :=
  match slots with
  | [] => none
  | slot :: rest =>
    let px := twoBits (slot.hi.getLsbD 7) (slot.lo.getLsbD 7)
    if slot.x = 0#8 ∧ px ≠ 0#2 then
      some ⟨px, slot.sprite.attr.setWidth 2, slot.sprite.attr.getLsbD 5, i⟩
    else firstOpaque (i + 1) rest

/-- The sprite pixel of the present dot, if one is opaque (R227). -/
def Ppu.spritePixel (leftClip : Bool) (p : Ppu) : Option SpritePixel :=
  if p.showSprites && columnShown leftClip p.showSpritesLeft p.column then
    firstOpaque 0 (p.curSprites.take p.curCount)
  else none

/-- The mixed pixel and its palette number 0..7 (R228); sprite palettes are 4-7. -/
def mixPixel (bg : BitVec 2 × BitVec 2) (fg : Option SpritePixel) : BitVec 2 × BitVec 3 :=
  let back := (bg.1, bg.2.setWidth 3)
  match fg with
  | none => if bg.1 = 0#2 then (0#2, 0#3) else back
  | some f => if bg.1 ≠ 0#2 ∧ f.behind = true then back else (f.px, 4#3 + f.pal.setWidth 3)

/-- Whether this dot is a sprite-0 hit (R229). -/
def Ppu.hitsSprite0 (bg : BitVec 2 × BitVec 2) (fg : Option SpritePixel) (p : Ppu) : Bool :=
  match fg with
  | none => false
  | some f => bg.1 != 0#2 && f.slot == 0 && p.curSprite0 && p.column != 255

/-- `EMPHASIS_RGB`: the identity when the emphasis bits are 0, and open otherwise (R230, D35). -/
def emphasize (bits : BitVec 3) (c : Rgb) : Rgb := if bits = 0#3 then c else Config.emphasisRgb bits c

/-- The colour of a mixed pixel: the palette entry at `$3F00 + pal * 4 + px`, through the palette and
the emphasis (R230). -/
def pixelColour (px : BitVec 2) (pal : BitVec 3) (s : State) : Rgb :=
  let entry := ppuRead (0x3F00#16 + pal.setWidth 16 * 4#16 + px.setWidth 16) s
  emphasize (s.ppu.mask.extractLsb' 5 3) (Config.paletteRgb (entry.setWidth 6))

/-- Write one RGBA pixel, with alpha 0xFF, at column `x` of a row of the frame buffer (R230). -/
def putPixel (x : Nat) (c : Rgb) (row : Memory) : Memory :=
  (((row.put (4 * x) c.r).put (4 * x + 1) c.g).put (4 * x + 2) c.b).put (4 * x + 3) 0xFF#8

/-- Byte `o` of the frame buffer, `o = (y * 256 + x) * 4 + channel` (R43, R230). -/
def Ppu.frameByte (p : Ppu) (o : Nat) : Byte := (p.frame.getD (o / 1024) []).get (o % 1024)

/-- `OutputPixel()` (R230), with the sprite-0 hit of R229. -/
def outputPixel (s : State) : State :=
  let bg := s.ppu.backgroundPixel s.launch.leftClip
  let fg := s.ppu.spritePixel s.launch.leftClip
  let mixed := mixPixel bg fg
  let colour := pixelColour mixed.1 mixed.2 s
  s.mapPpu fun p =>
    { p with
      sprite0Hit := p.sprite0Hit || p.hitsSprite0 bg fg
      frame := p.frame.modify p.scanline (putPixel p.column colour) }

/-! ### The dot -/

/-- The work on `v` at dots 256, 257 and 280-304, while rendering (R207, R214-R216). -/
def Ppu.scrollUpdates (p : Ppu) : Ppu :=
  if p.rendering then
    let v1 := if p.dot = 256 then incY p.v else p.v
    let v2 := if p.dot = 257 then copyH v1 p.t else v1
    let v3 := if p.preRender ∧ 280 ≤ p.dot ∧ p.dot ≤ 304 then copyV v2 p.t else v2
    { p with v := v3 }
  else p

/-- The sprite transfer at dot 257 and the sprite fetches at dots 257, 265, ..., 313, while rendering
(R207, R223, R224). -/
def spriteLoads (s : State) : State :=
  if s.ppu.rendering then
    let s1 := if s.ppu.dot = 257 then s.mapPpu Ppu.spriteTransfer else s
    if 257 ≤ s.ppu.dot ∧ s.ppu.dot ≤ 320 ∧ (s.ppu.dot - 257) % 8 = 0 then
      spriteFetch ((s.ppu.dot - 257) / 8) s1
    else s1
  else s

/-- The work of a dot of a visible or the pre-render line, in R207's order. -/
def lineWork (s : State) : State :=
  let s1 := if s.ppu.preRender ∧ s.ppu.dot = 1 then s.mapPpu Ppu.preRenderClear else s
  let s2 := spriteLoads ((backgroundFetch s1).mapPpu Ppu.scrollUpdates)
  let s3 := if s2.ppu.onPixel then outputPixel s2 else s2
  let s4 := if s3.ppu.visible ∧ s3.ppu.dot = 256 ∧ s3.ppu.rendering then
      s3.mapPpu Ppu.spriteEvaluate else s3
  let s5 := s4.mapPpu Ppu.backgroundShift
  if s5.ppu.onPixel then s5.mapPpu Ppu.spriteShift else s5

/-- The dot's own work: that of a rendered line, or the start of vblank at line 241, dot 1 (R207). -/
def dotWork (s : State) : State :=
  if s.ppu.visible || s.ppu.preRender then lineWork s
  else if s.ppu.scanline = 241 ∧ s.ppu.dot = 1 then vblankStart s
  else s

/-- One call of `ppu.clock()` (R207). -/
def ppuClock (s : State) : State :=
  (dotWork ((dmaDrain s).mapPpu Ppu.oddSkip)).mapPpu Ppu.advance

end Sys2Proof.Machine
end

