-- ==== Sys2Proof/Machine/Clock.lean ====
section
/-! DEFINITION. The CPU's clock call (R82) and the system tick: one CPU clock followed by three PPU
clocks (R7, D1; log entry 10). -/

namespace Sys2Proof.Machine

/-- Step 1 of the CPU clock: the stall of an armed OAM-DMA, 513 cycles and one more when `cycl` is odd
(R63, R82). -/
def dmaStall (s : State) : State :=
  if s.bus.oamDmaCpu then
    { s with
      cpu := { s.cpu with next := s.cpu.next + 513 + s.cpu.cycl % 2 }
      bus := { s.bus with oamDmaCpu := false } }
  else s

/-- The interrupt that the check would enter: IRQ, when I is clear, before NMI (R82, R237). -/
def pendingInterrupt (s : State) : Option Interrupt :=
  if s.bus.irqLine && !s.cpu.i then some .irq
  else if s.bus.nmiSignal then some .nmi
  else none

/-- Enter an interrupt; servicing an NMI clears its request (R82, R234). -/
def takeInterrupt (k : Interrupt) (s : State) : State :=
  match k with
  | .irq => enterInterrupt .irq s
  | .nmi => enterInterrupt .nmi { s with bus := { s.bus with nmiSignal := false } }

/-- Step 2 of the CPU clock: when the CPU is due, enter a pending interrupt or fetch and execute one
instruction (R82, R83). -/
def dueWork (s : State) : Result :=
  if s.cpu.cycl = s.cpu.next then
    match pendingInterrupt s with
    | some k => .next (takeInterrupt k s)
    | none =>
      let f := fetchInstr s
      exec f.1 f.2
  else .next s

/-- Step 3 of the CPU clock: the cycle counter, wrapped together with `next` at 60,000 (R82, D2; log
entry 15). -/
def Cpu.countCycle (c : Cpu) : Cpu :=
  if 60000 ≤ c.cycl + 1 then { c with cycl := c.cycl + 1 - 60000, next := c.next - 60000 }
  else { c with cycl := c.cycl + 1 }

/-- One call of `cpu.clock()` (R82); a jammed CPU does nothing (R87). -/
def cpuClock (s : State) : Result :=
  if s.cpu.jammed then .next s
  else
    match dueWork (dmaStall s) with
    | .next s1 => .next (s1.mapCpu Cpu.countCycle)
    | .fault r => .fault r
    | .refused r => .refused r

/-- One system tick: the CPU's clock, then the PPU's three (R7, R248, D1). -/
def tick (s : State) : Result :=
  match cpuClock s with
  | .next s1 => .next (ppuClock (ppuClock (ppuClock s1)))
  | .fault r => .fault r
  | .refused r => .refused r

end Sys2Proof.Machine
end

