-- ==== Sys2Proof/Machine/Step.lean ====
section
/-! DEFINITION. The step of the machine, one system tick, and the loader's entry for one instruction. -/

namespace Sys2Proof.Machine

/-- One step: one system tick (R7, D1; log entry 10). -/
def step (s : State) : Host.Outcome State Fault Refusal := tick s

/-- The state whose next step fetches and runs the instruction that a table word spells (log entry
8). -/
def State.withFetchWord (s : State) (nbits w : Nat) : State :=
  placeAtPc (tableByte (w % 2 ^ nbits) 0) (tableByte (w % 2 ^ nbits) 1) (tableByte (w % 2 ^ nbits) 2)
    (readyToFetch s)

end Sys2Proof.Machine
end

