-- ==== Sys2Proof/Machine/HostActions.lean ====
section
/-! DEFINITION. What the host may do to a running core (R248), between ticks, and the frame that the Display
reads (R252, R262). -/

namespace Sys2Proof.Machine

/-! ### The frame buffer's window (R262; log entry 22) -/

/-- No pixel of the next frame is in the frame buffer yet: from after line 239, dot 256 to line 0, dot 1, whose
pixel is still to come (R230, R262). -/
def Ppu.holdsFrame (p : Ppu) : Bool :=
  (p.scanline == 239 && decide (257 ≤ p.dot)) || decide (240 ≤ p.scanline) ||
    (p.scanline == 0 && decide (p.dot ≤ 1))

/-- The complete frame that the Display may consume: the frame buffer, while `frame_ready` is set and no pixel
of the next frame is in it (R252, R262). -/
def displayFrame (s : State) : Option (List Memory) :=
  if s.ppu.frameReady && s.ppu.holdsFrame then some s.ppu.frame else none

/-- The coming dot outputs a pixel of a new frame while `frame_ready` is still set: the host has broken the
contract of R212 and R262, which the core does not enforce (D37). -/
def Ppu.frameOverrun (p : Ppu) : Bool := p.frameReady && p.onPixel

/-! ### The host's actions -/

/-- The host's actions (R248). To stop calling `clock()` is to take no more of them. -/
inductive HostAction where
  /-- Run one system tick. -/
  | tick
  /-- Set the `irq_line` input for the coming CPU clocks (R29). -/
  | setIrqLine (level : Bool)
  /-- Clear `frame_ready` after the Display has consumed the frame (R212, R252). -/
  | clearFrameReady
  /-- Reset the core (R253). -/
  | reset
  /-- Supply answers that the InputDevice will give, after those already supplied (R251). -/
  | supplyInput (answers : List Byte)
  deriving DecidableEq, Repr

/-- Carry out one host action. -/
def hostAct (act : HostAction) (s : State) : Result :=
  match act with
  | .tick => step s
  | .setIrqLine level => .next { s with bus := { s.bus with irqLine := level } }
  | .clearFrameReady => .next (s.mapPpu fun p => { p with frameReady := false })
  | .reset => .next (resetCore s)
  | .supplyInput answers => .next { s with input := { s.input with answers := s.input.answers ++ answers } }

/-- Carry out a list of host actions, in order, up to the first refusal. -/
def hostRun (acts : List HostAction) (s : State) : Result :=
  match acts with
  | [] => .next s
  | act :: rest =>
    match hostAct act s with
    | .next s1 => hostRun rest s1
    | .fault r => .fault r
    | .refused r => .refused r

end Sys2Proof.Machine
end

