-- ==== Sys2Proof/Machine/Trace.lean ====
section
/-! DEFINITION. The instruction trace (R245) with its disassembly (R81), read through the debug bypass
(R47). -/

namespace Sys2Proof.Machine

/-- The bytes at `a`, `a + 1`, ..., `k` of them, read by `PeekRead`. -/
def peekBytes (k : Nat) (a : Addr) (s : State) : List Byte :=
  match k with
  | 0 => []
  | k + 1 => peekRead a s :: peekBytes k (a + 1#16) s

/-- The bytes of the instruction at `a`, by `PeekRead` (R245). -/
def peekInstrBytes (a : Addr) (s : State) : List Byte :=
  peekBytes (1 + operandCount (peekRead a s)) a s

/-- The instruction at `a`, by `PeekRead`. -/
def peekInstr (a : Addr) (s : State) : Instr :=
  decodeWith (peekRead a s) (peekRead (a + 1#16) s) (peekRead (a + 2#16) s)

/-- One hexadecimal digit. -/
def hexDigit (n : Nat) : String := String.singleton ("0123456789ABCDEF".toList.getD n '0')

/-- A byte as two hexadecimal digits. -/
def hexByte (b : Byte) : String := hexDigit (b.toNat / 16) ++ hexDigit (b.toNat % 16)

/-- A byte with the assembler's prefix for hexadecimal. -/
def asmByte (b : Byte) : String := "$" ++ hexByte b

/-- An address with the assembler's prefix for hexadecimal. -/
def asmAddr (a : Addr) : String := "$" ++ hexByte (hi a) ++ hexByte (lo a)

/-- The text of an operand, for an instruction at `pc`; a branch is written with its target (R81). -/
def operandText (pc : Addr) (row : Row) : String :=
  let b1 := row.operands.getD 0 0#8
  let word := mkAddr (row.operands.getD 1 0#8) b1
  match row.mode with
  | .imp => ""
  | .acc => " A"
  | .imm => " #" ++ asmByte b1
  | .zp => " " ++ asmByte b1
  | .zpx => " " ++ asmByte b1 ++ ",X"
  | .zpy => " " ++ asmByte b1 ++ ",Y"
  | .izx => " (" ++ asmByte b1 ++ ",X)"
  | .izy => " (" ++ asmByte b1 ++ "),Y"
  | .rel => " " ++ asmAddr (pc + 2#16 + sext16 b1)
  | .abs => " " ++ asmAddr word
  | .abx => " " ++ asmAddr word ++ ",X"
  | .aby => " " ++ asmAddr word ++ ",Y"
  | .ind => " (" ++ asmAddr word ++ ")"

/-- The disassembly of an instruction at `pc`: the mnemonic and the operand (R81). An undocumented opcode has
its bare mnemonic, without the `*` that golden logs conventionally prefix (DESIGN CHOICE; log entry 19). -/
def disassemble (pc : Addr) (i : Instr) : String := i.row.mnemonic ++ operandText pc i.row

/-- One record of the trace (R245). -/
structure TraceRecord where
  pc : Addr
  bytes : List Byte
  text : String
  a : Byte
  x : Byte
  y : Byte
  stat : Byte
  sp : Byte
  cycl : Nat
  deriving DecidableEq, Repr

/-- Whether the coming CPU clock fetches an instruction: the CPU is not jammed, it is due after step 1,
and no interrupt is entered (R82, R245). -/
def fetchesNow (s : State) : Bool :=
  let s1 := dmaStall s
  !s.cpu.jammed && s1.cpu.cycl == s1.cpu.next && (pendingInterrupt s1).isNone

/-- The trace record of the coming tick, taken before the fetch; none when it fetches nothing (R245). -/
def traceRecord (s : State) : Option TraceRecord :=
  if fetchesNow s then
    some {
      pc := s.cpu.pc
      bytes := peekInstrBytes s.cpu.pc s
      text := disassemble s.cpu.pc (peekInstr s.cpu.pc s)
      a := s.cpu.a
      x := s.cpu.x
      y := s.cpu.y
      stat := s.cpu.stat
      sp := s.cpu.sp
      cycl := s.cpu.cycl }
  else none

/-- A test program's run with end address `e` has ended: the coming tick would fetch at `e`, where
`JMP e` stands (R249). -/
def runEnded (e : Addr) (s : State) : Bool :=
  fetchesNow s && s.cpu.pc == e && peekBytes 3 e s == encode (.jmpAbs e)

end Sys2Proof.Machine
end

