-- ==== Sys2Proof/Safety.lean ====
section
/-! DEFINITION. What a safe run is, and the invariants of the machine: the facts about a state that its
rules keep. -/

namespace Sys2Proof.Machine

/-- `k` ticks run without a refusal or a fault. -/
def SafeFor (k : Nat) (s : State) : Prop := ∃ t, Host.Core.run Sys2Proof.core k s = .next t

/-- The register's B bits: B1 = 0 and B2 = 1 (R23). -/
def StatInv (s : State) : Prop := s.cpu.b1 = false ∧ s.cpu.b2 = true

/-- The cycle counters: `cycl` is below 60,000, `next` is at or after it (R25), by at most 522 cycles,
and by at most 8 while a DMA stall is still to be taken (R264: the longest instruction or entry takes 8
cycles, a stall 514). -/
def CycleInv (s : State) : Prop :=
  s.cpu.cycl < 60000 ∧ s.cpu.cycl ≤ s.cpu.next ∧ s.cpu.next ≤ s.cpu.cycl + 522 ∧
    (s.bus.oamDmaCpu = true → s.cpu.next ≤ s.cpu.cycl + 8)

/-- The PPU's counters and fields stay in the ranges of R10, R35, R40 and R42. -/
def PpuInv (s : State) : Prop :=
  s.ppu.scanline < 262 ∧ s.ppu.dot < 341 ∧
    s.ppu.v.getLsbD 15 = false ∧ s.ppu.t.getLsbD 15 = false ∧
    s.ppu.nextSprites.length = 8 ∧ s.ppu.curSprites.length = 8 ∧
    s.ppu.nextCount ≤ 8 ∧ s.ppu.curCount ≤ 8

/-- Every memory is in its canonical form and within its bounds: RAM 2 KiB (R27), OAM 256 bytes (R37),
four nametable banks (R38), 32 palette entries of 6 bits (R39), the frame buffer (R43), and the
cartridge's two windows (R45, R58). -/
def MemoryInv (s : State) : Prop :=
  s.bus.ram.wf = true ∧ s.bus.ram.below 2048 = true ∧
    s.ppu.oam.wf = true ∧ s.ppu.oam.below 256 = true ∧
    s.ppu.nt.wf = true ∧ s.ppu.nt.below 4096 = true ∧
    s.ppu.pal.wf = true ∧ s.ppu.pal.below 32 = true ∧ s.ppu.pal.within 0x3F#8 = true ∧
    s.ppu.frame.length = 240 ∧
    (∀ row ∈ s.ppu.frame, row.wf = true ∧ row.below 1024 = true) ∧
    s.cart.prg.wf = true ∧ s.cart.prg.below 65536 = true ∧
    s.cart.chr.wf = true ∧ s.cart.chr.below 8192 = true

end Sys2Proof.Machine
end

