-- ==== Sys2Proof/Certificates/Slice0/Obligations.lean ====
section
/-! DEFINITION. The statements about the model, `def Obligations.<Name> : Prop`, and the vocabulary they are
written in (namespace `Sys2Proof.Claims`). The lists of forms are the **Encoding** lines of the spec's
instruction rules: opcode byte, instruction, operand, page-sensitive mark, base cycles. A result statement
says, as one equation, that the instruction completes, what it writes, and that it writes nothing else. -/

namespace Sys2Proof.Claims

open Sys2Proof.Machine

/-! ### Vocabulary -/

/-- One form of an instruction with an operand byte or word. -/
structure Form where
  opcode : Byte
  instr : Instr
  operand : Operand
  sensitive : Bool
  cycles : Nat

/-- `SetZN(v)` on a STAT byte: bit 1 says whether `v` is 0, bit 7 is bit 7 of `v` (R13). -/
def zn (v st : Byte) : Byte :=
  (st &&& 0x7D#8) ||| (if v = 0#8 then 0x02#8 else 0x00#8) ||| (v &&& 0x80#8)

/-- `STAT.C <- b` on a STAT byte. -/
def withC (b : Bool) (st : Byte) : Byte := (st &&& 0xFE#8) ||| (if b then 0x01#8 else 0x00#8)

/-- `STAT.V <- b` on a STAT byte. -/
def withV (b : Bool) (st : Byte) : Byte := (st &&& 0xBF#8) ||| (if b then 0x40#8 else 0x00#8)

/-- The carry as a number. -/
def carryIn (c : Cpu) : Nat := if c.stat.getLsbD 0 then 1 else 0

/-- `M`, the operand byte of a form, and the state after the reads that give it. -/
def Form.operandRead (f : Form) (s : State) : Byte × State :=
  operandByte f.operand (resolve f.operand f.sensitive s)

/-- The form's opcode byte comes first in its encoding. -/
def Form.encoded (f : Form) : Prop := (encode f.instr).head? = some f.opcode

/-- Every form reads `M` once and changes the CPU by `effect M`; `next` becomes `cycl` plus the base
cycles plus the page-cross cycle; nothing else changes. -/
def ReadsAs (forms : Byte → Addr → List Form) (effect : Byte → Cpu → Cpu) (s : State) : Prop :=
  ∀ (b : Byte) (w : Addr), ∀ f ∈ forms b w, f.encoded ∧
    exec f.instr s = .next { (f.operandRead s).2 with
      cpu := { effect (f.operandRead s).1 s.cpu with
        next := s.cpu.cycl + f.cycles + (resolve f.operand f.sensitive s).extra } }

/-- Every form writes `value` once, at the effective address, and reads nothing there; only `next`
changes in the CPU. -/
def WritesAs (forms : Byte → Addr → List Form) (value : Addr → Cpu → Byte) (s : State) : Prop :=
  ∀ (b : Byte) (w : Addr), ∀ f ∈ forms b w, f.encoded ∧
    exec f.instr s = .next
      { busWrite (resolve f.operand false s).ea (value (resolve f.operand false s).ea s.cpu)
          (resolve f.operand false s).state with
        cpu := { s.cpu with next := s.cpu.cycl + f.cycles } }

/-- Every form reads `M` at the effective address, writes `g M` there, and changes the CPU by
`effect M`. -/
def ModifiesAs (forms : Byte → Addr → List Form) (g : Byte → Cpu → Byte) (effect : Byte → Cpu → Cpu)
    (s : State) : Prop :=
  ∀ (b : Byte) (w : Addr), ∀ f ∈ forms b w, f.encoded ∧
    exec f.instr s = .next
      { busWrite (resolve f.operand false s).ea
          (g (busRead (resolve f.operand false s).ea (resolve f.operand false s).state).1 s.cpu)
          (busRead (resolve f.operand false s).ea (resolve f.operand false s).state).2 with
        cpu := { effect (busRead (resolve f.operand false s).ea (resolve f.operand false s).state).1
            s.cpu with next := s.cpu.cycl + f.cycles } }

/-- An instruction without operand bytes changes the CPU by `effect` and `next`, and nothing else. -/
def ChangesAs (opcode : Byte) (i : Instr) (cycles : Nat) (effect : Cpu → Cpu) (s : State) : Prop :=
  encode i = [opcode] ∧
    exec i s = .next { s with cpu := { effect s.cpu with next := s.cpu.cycl + cycles } }

/-- The stack byte that a stack pointer addresses: `0x0100 | SP` (R21). -/
def stackCell (sp : Byte) : Nat := (0x0100#16 ||| zext16 sp).toNat

/-- The bytes `b0 :: ...` pushed in that order from the stack pointer `sp` down. -/
def pushedOn (ram : Memory) (sp : Byte) (bytes : List Byte) : Memory :=
  match bytes with
  | [] => ram
  | b :: rest => pushedOn (ram.put (stackCell sp) b) (sp - 1#8) rest

/-- The little-endian word of the cartridge at an address: `ReadWord` of a vector (R51, R52). -/
def cartWord (c : Cartridge) (a : Addr) : Addr := mkAddr (c.cpuRead (a + 1#16)) (c.cpuRead a)

/-- The byte of memory at a CPU address: RAM below $2000, the cartridge's answer above. -/
def byteAt (a : Addr) (s : State) : Byte :=
  if a.ult 0x2000#16 then s.bus.ram.get (ramCell a) else s.cart.cpuRead a

/-- Two CPU addresses name the same byte of memory: RAM is mirrored every 2 KiB. -/
abbrev sameByte (a b : Addr) : Prop :=
  if a.ult 0x2000#16 ∧ b.ult 0x2000#16 then a.toNat % 2048 = b.toNat % 2048 else a = b

/-- An address whose read has no side effect: RAM, or the window the cartridge answers. -/
abbrev plain (a : Addr) (s : State) : Prop :=
  a.ult 0x2000#16 = true ∨ cartridgeAnswers s.launch a = true

/-- The mnemonics whose rule stores at `ea` (the Write and Read-modify-write classes of R102). -/
def storingMnemonics : List String :=
  ["STA", "STX", "STY", "SAX", "SHA", "SHX", "SHY", "TAS", "INC", "DEC", "ASL", "LSR", "ROL", "ROR"] ++
  ["SLO", "RLA", "SRE", "RRA", "DCP", "ISB"]

/-- An instruction that stores at its effective address; the accumulator forms store nothing. -/
def storesAtEa (i : Instr) : Bool := i.row.mnemonic ∈ storingMnemonics && i.row.mode != .acc

/-- How many bytes an instruction pushes. -/
def pushCount (i : Instr) : Nat :=
  if i.row.mnemonic = "PHA" ∨ i.row.mnemonic = "PHP" then 1
  else if i.row.mnemonic = "JSR" then 2
  else if i.row.mnemonic = "BRK" then 3
  else 0

/-- The operand of an instruction, from its mode and its operand bytes. -/
def operandOf (i : Instr) : Option Operand :=
  match i.row.mode, i.row.operands with
  | .imm, [b] => some (.imm b)
  | .zp, [b] => some (.zp b)
  | .zpx, [b] => some (.zpx b)
  | .zpy, [b] => some (.zpy b)
  | .izx, [b] => some (.izx b)
  | .izy, [b] => some (.izy b)
  | .rel, [b] => some (.rel b)
  | .abs, [l, h] => some (.abs (mkAddr h l))
  | .abx, [l, h] => some (.abx (mkAddr h l))
  | .aby, [l, h] => some (.aby (mkAddr h l))
  | .ind, [l, h] => some (.ind (mkAddr h l))
  | _, _ => none

/-- What the rest of the tick makes of an executed instruction: the cycle counted, three PPU dots. -/
def restOfTick (r : Result) : Result :=
  match r with
  | .next t => .next (ppuClock (ppuClock (ppuClock (t.mapCpu Cpu.countCycle))))
  | .fault x => .fault x
  | .refused x => .refused x

/-- The present CPU clock is an instruction boundary with no DMA stall to take. -/
abbrev due (s : State) : Prop :=
  s.cpu.jammed = false ∧ s.bus.oamDmaCpu = false ∧ s.cpu.cycl = s.cpu.next

/-- `n` PPU clocks. -/
def ppuClocks (n : Nat) (s : State) : State :=
  match n with
  | 0 => s
  | n + 1 => ppuClocks n (ppuClock s)

/-- The number of the present dot in its frame. -/
def framePosition (p : Ppu) : Nat := p.scanline * 341 + p.dot

/-- A line with dot work: a visible one, or the pre-render line (R207). -/
abbrev renderedLine (p : Ppu) : Prop := p.scanline ≤ 239 ∨ p.scanline = 261

/-- A dot that outputs a pixel: 1 to 256 of a visible line (R207). -/
abbrev pixelDot (p : Ppu) : Prop := p.scanline ≤ 239 ∧ 1 ≤ p.dot ∧ p.dot ≤ 256

/-- A dot of the background's two ranges (R217, R221). -/
abbrev fetchDot (p : Ppu) : Prop := (1 ≤ p.dot ∧ p.dot ≤ 256) ∨ (321 ≤ p.dot ∧ p.dot ≤ 336)

/-- The first dot of an odd frame while rendering, which the clock passes over (R209). -/
abbrev skipsDot (p : Ppu) : Prop :=
  p.scanline = 0 ∧ p.dot = 0 ∧ p.oddFrame = true ∧ p.rendering = true

/-- The clock of `s` works on the dot its counters show: no OAM-DMA copy comes first and no dot is skipped. What
it does in those two cases OamDma and FrameTiming say, by the clock of a state that meets this. -/
abbrev ownDot (s : State) : Prop := s.bus.oamDmaPpu = false ∧ ¬ skipsDot s.ppu

/-- The background's "next" latches (R41). -/
def latches (p : Ppu) : Byte × BitVec 2 × Byte × Byte :=
  (p.bgNextTileId, p.bgNextAttr, p.bgNextLo, p.bgNextHi)

/-- The four background shifters (R41). -/
def shifters (p : Ppu) : Addr × Addr × Addr × Addr := (p.shPatLo, p.shPatHi, p.shAttrLo, p.shAttrHi)

/-- The sprites staged for the next line (R42). -/
def staged (p : Ppu) : List Sprite × Nat × Bool := (p.nextSprites, p.nextCount, p.nextSprite0)

/-- The sprites of the present line (R42). -/
def active (p : Ppu) : List SpriteSlot × Nat × Bool := (p.curSprites, p.curCount, p.curSprite0)

/-! ### The forms of the instructions -/

/-- The forms of `LDA` (R104). -/
def ldaForms (b : Byte) (w : Addr) : List Form :=
  [⟨0xA1#8, .ldaIzx b, .izx b, false, 6⟩, ⟨0xA5#8, .ldaZp b, .zp b, false, 3⟩,
   ⟨0xA9#8, .ldaImm b, .imm b, false, 2⟩, ⟨0xAD#8, .ldaAbs w, .abs w, false, 4⟩,
   ⟨0xB1#8, .ldaIzy b, .izy b, true, 5⟩, ⟨0xB5#8, .ldaZpx b, .zpx b, false, 4⟩,
   ⟨0xB9#8, .ldaAby w, .aby w, true, 4⟩, ⟨0xBD#8, .ldaAbx w, .abx w, true, 4⟩]

/-- The forms of `LDX` (R105). -/
def ldxForms (b : Byte) (w : Addr) : List Form :=
  [⟨0xA2#8, .ldxImm b, .imm b, false, 2⟩, ⟨0xA6#8, .ldxZp b, .zp b, false, 3⟩,
   ⟨0xAE#8, .ldxAbs w, .abs w, false, 4⟩, ⟨0xB6#8, .ldxZpy b, .zpy b, false, 4⟩,
   ⟨0xBE#8, .ldxAby w, .aby w, true, 4⟩]

/-- The forms of `LDY` (R106). -/
def ldyForms (b : Byte) (w : Addr) : List Form :=
  [⟨0xA0#8, .ldyImm b, .imm b, false, 2⟩, ⟨0xA4#8, .ldyZp b, .zp b, false, 3⟩,
   ⟨0xAC#8, .ldyAbs w, .abs w, false, 4⟩, ⟨0xB4#8, .ldyZpx b, .zpx b, false, 4⟩,
   ⟨0xBC#8, .ldyAbx w, .abx w, true, 4⟩]

/-- The forms of `LAX` (R171). -/
def laxForms (b : Byte) (w : Addr) : List Form :=
  [⟨0xA3#8, .laxIzx b, .izx b, false, 6⟩, ⟨0xA7#8, .laxZp b, .zp b, false, 3⟩,
   ⟨0xAF#8, .laxAbs w, .abs w, false, 4⟩, ⟨0xB3#8, .laxIzy b, .izy b, true, 5⟩,
   ⟨0xB7#8, .laxZpy b, .zpy b, false, 4⟩, ⟨0xBF#8, .laxAby w, .aby w, true, 4⟩]

/-- The forms of `STA` (R107). -/
def staForms (b : Byte) (w : Addr) : List Form :=
  [⟨0x81#8, .staIzx b, .izx b, false, 6⟩, ⟨0x85#8, .staZp b, .zp b, false, 3⟩,
   ⟨0x8D#8, .staAbs w, .abs w, false, 4⟩, ⟨0x91#8, .staIzy b, .izy b, false, 6⟩,
   ⟨0x95#8, .staZpx b, .zpx b, false, 4⟩, ⟨0x99#8, .staAby w, .aby w, false, 5⟩,
   ⟨0x9D#8, .staAbx w, .abx w, false, 5⟩]

/-- The forms of `STX` (R108). -/
def stxForms (b : Byte) (w : Addr) : List Form :=
  [⟨0x86#8, .stxZp b, .zp b, false, 3⟩, ⟨0x8E#8, .stxAbs w, .abs w, false, 4⟩,
   ⟨0x96#8, .stxZpy b, .zpy b, false, 4⟩]

/-- The forms of `STY` (R109). -/
def styForms (b : Byte) (w : Addr) : List Form :=
  [⟨0x84#8, .styZp b, .zp b, false, 3⟩, ⟨0x8C#8, .styAbs w, .abs w, false, 4⟩,
   ⟨0x94#8, .styZpx b, .zpx b, false, 4⟩]

/-- The forms of `SAX` (R172). -/
def saxForms (b : Byte) (w : Addr) : List Form :=
  [⟨0x83#8, .saxIzx b, .izx b, false, 6⟩, ⟨0x87#8, .saxZp b, .zp b, false, 3⟩,
   ⟨0x8F#8, .saxAbs w, .abs w, false, 4⟩, ⟨0x97#8, .saxZpy b, .zpy b, false, 4⟩]

/-- The forms of `ADC` (R124). -/
def adcForms (b : Byte) (w : Addr) : List Form :=
  [⟨0x61#8, .adcIzx b, .izx b, false, 6⟩, ⟨0x65#8, .adcZp b, .zp b, false, 3⟩,
   ⟨0x69#8, .adcImm b, .imm b, false, 2⟩, ⟨0x6D#8, .adcAbs w, .abs w, false, 4⟩,
   ⟨0x71#8, .adcIzy b, .izy b, true, 5⟩, ⟨0x75#8, .adcZpx b, .zpx b, false, 4⟩,
   ⟨0x79#8, .adcAby w, .aby w, true, 4⟩, ⟨0x7D#8, .adcAbx w, .abx w, true, 4⟩]

/-- The forms of `SBC` (R125, R177). -/
def sbcForms (b : Byte) (w : Addr) : List Form :=
  [⟨0xE1#8, .sbcIzx b, .izx b, false, 6⟩, ⟨0xE5#8, .sbcZp b, .zp b, false, 3⟩,
   ⟨0xE9#8, .sbcImm b, .imm b, false, 2⟩, ⟨0xED#8, .sbcAbs w, .abs w, false, 4⟩,
   ⟨0xF1#8, .sbcIzy b, .izy b, true, 5⟩, ⟨0xF5#8, .sbcZpx b, .zpx b, false, 4⟩,
   ⟨0xF9#8, .sbcAby w, .aby w, true, 4⟩, ⟨0xFD#8, .sbcAbx w, .abx w, true, 4⟩,
   ⟨0xEB#8, .sbcImmEB b, .imm b, false, 2⟩]

/-- The forms of `AND` (R126). -/
def andForms (b : Byte) (w : Addr) : List Form :=
  [⟨0x21#8, .andIzx b, .izx b, false, 6⟩, ⟨0x25#8, .andZp b, .zp b, false, 3⟩,
   ⟨0x29#8, .andImm b, .imm b, false, 2⟩, ⟨0x2D#8, .andAbs w, .abs w, false, 4⟩,
   ⟨0x31#8, .andIzy b, .izy b, true, 5⟩, ⟨0x35#8, .andZpx b, .zpx b, false, 4⟩,
   ⟨0x39#8, .andAby w, .aby w, true, 4⟩, ⟨0x3D#8, .andAbx w, .abx w, true, 4⟩]

/-- The forms of `ORA` (R127). -/
def oraForms (b : Byte) (w : Addr) : List Form :=
  [⟨0x01#8, .oraIzx b, .izx b, false, 6⟩, ⟨0x05#8, .oraZp b, .zp b, false, 3⟩,
   ⟨0x09#8, .oraImm b, .imm b, false, 2⟩, ⟨0x0D#8, .oraAbs w, .abs w, false, 4⟩,
   ⟨0x11#8, .oraIzy b, .izy b, true, 5⟩, ⟨0x15#8, .oraZpx b, .zpx b, false, 4⟩,
   ⟨0x19#8, .oraAby w, .aby w, true, 4⟩, ⟨0x1D#8, .oraAbx w, .abx w, true, 4⟩]

/-- The forms of `EOR` (R128). -/
def eorForms (b : Byte) (w : Addr) : List Form :=
  [⟨0x41#8, .eorIzx b, .izx b, false, 6⟩, ⟨0x45#8, .eorZp b, .zp b, false, 3⟩,
   ⟨0x49#8, .eorImm b, .imm b, false, 2⟩, ⟨0x4D#8, .eorAbs w, .abs w, false, 4⟩,
   ⟨0x51#8, .eorIzy b, .izy b, true, 5⟩, ⟨0x55#8, .eorZpx b, .zpx b, false, 4⟩,
   ⟨0x59#8, .eorAby w, .aby w, true, 4⟩, ⟨0x5D#8, .eorAbx w, .abx w, true, 4⟩]

/-- The forms of `BIT` (R129). -/
def bitForms (b : Byte) (w : Addr) : List Form :=
  [⟨0x24#8, .bitZp b, .zp b, false, 3⟩, ⟨0x2C#8, .bitAbs w, .abs w, false, 4⟩]

/-- The forms of `CMP` (R130). -/
def cmpForms (b : Byte) (w : Addr) : List Form :=
  [⟨0xC1#8, .cmpIzx b, .izx b, false, 6⟩, ⟨0xC5#8, .cmpZp b, .zp b, false, 3⟩,
   ⟨0xC9#8, .cmpImm b, .imm b, false, 2⟩, ⟨0xCD#8, .cmpAbs w, .abs w, false, 4⟩,
   ⟨0xD1#8, .cmpIzy b, .izy b, true, 5⟩, ⟨0xD5#8, .cmpZpx b, .zpx b, false, 4⟩,
   ⟨0xD9#8, .cmpAby w, .aby w, true, 4⟩, ⟨0xDD#8, .cmpAbx w, .abx w, true, 4⟩]

/-- The forms of `CPX` (R131). -/
def cpxForms (b : Byte) (w : Addr) : List Form :=
  [⟨0xE0#8, .cpxImm b, .imm b, false, 2⟩, ⟨0xE4#8, .cpxZp b, .zp b, false, 3⟩,
   ⟨0xEC#8, .cpxAbs w, .abs w, false, 4⟩]

/-- The forms of `CPY` (R132). -/
def cpyForms (b : Byte) (w : Addr) : List Form :=
  [⟨0xC0#8, .cpyImm b, .imm b, false, 2⟩, ⟨0xC4#8, .cpyZp b, .zp b, false, 3⟩,
   ⟨0xCC#8, .cpyAbs w, .abs w, false, 4⟩]

/-- The forms of `INC` (R133). -/
def incForms (b : Byte) (w : Addr) : List Form :=
  [⟨0xE6#8, .incZp b, .zp b, false, 5⟩, ⟨0xEE#8, .incAbs w, .abs w, false, 6⟩,
   ⟨0xF6#8, .incZpx b, .zpx b, false, 6⟩, ⟨0xFE#8, .incAbx w, .abx w, false, 7⟩]

/-- The forms of `DEC` (R134). -/
def decForms (b : Byte) (w : Addr) : List Form :=
  [⟨0xC6#8, .decZp b, .zp b, false, 5⟩, ⟨0xCE#8, .decAbs w, .abs w, false, 6⟩,
   ⟨0xD6#8, .decZpx b, .zpx b, false, 6⟩, ⟨0xDE#8, .decAbx w, .abx w, false, 7⟩]

/-- The memory forms of `ASL` (R139). -/
def aslForms (b : Byte) (w : Addr) : List Form :=
  [⟨0x06#8, .aslZp b, .zp b, false, 5⟩, ⟨0x0E#8, .aslAbs w, .abs w, false, 6⟩,
   ⟨0x16#8, .aslZpx b, .zpx b, false, 6⟩, ⟨0x1E#8, .aslAbx w, .abx w, false, 7⟩]

/-- The memory forms of `LSR` (R140). -/
def lsrForms (b : Byte) (w : Addr) : List Form :=
  [⟨0x46#8, .lsrZp b, .zp b, false, 5⟩, ⟨0x4E#8, .lsrAbs w, .abs w, false, 6⟩,
   ⟨0x56#8, .lsrZpx b, .zpx b, false, 6⟩, ⟨0x5E#8, .lsrAbx w, .abx w, false, 7⟩]

/-- The memory forms of `ROL` (R141). -/
def rolForms (b : Byte) (w : Addr) : List Form :=
  [⟨0x26#8, .rolZp b, .zp b, false, 5⟩, ⟨0x2E#8, .rolAbs w, .abs w, false, 6⟩,
   ⟨0x36#8, .rolZpx b, .zpx b, false, 6⟩, ⟨0x3E#8, .rolAbx w, .abx w, false, 7⟩]

/-- The memory forms of `ROR` (R142). -/
def rorForms (b : Byte) (w : Addr) : List Form :=
  [⟨0x66#8, .rorZp b, .zp b, false, 5⟩, ⟨0x6E#8, .rorAbs w, .abs w, false, 6⟩,
   ⟨0x76#8, .rorZpx b, .zpx b, false, 6⟩, ⟨0x7E#8, .rorAbx w, .abx w, false, 7⟩]

/-- The forms of `SLO` (R165). -/
def sloForms (b : Byte) (w : Addr) : List Form :=
  [⟨0x03#8, .sloIzx b, .izx b, false, 8⟩, ⟨0x07#8, .sloZp b, .zp b, false, 5⟩,
   ⟨0x0F#8, .sloAbs w, .abs w, false, 6⟩, ⟨0x13#8, .sloIzy b, .izy b, false, 8⟩,
   ⟨0x17#8, .sloZpx b, .zpx b, false, 6⟩, ⟨0x1B#8, .sloAby w, .aby w, false, 7⟩,
   ⟨0x1F#8, .sloAbx w, .abx w, false, 7⟩]

/-- The forms of `RLA` (R166). -/
def rlaForms (b : Byte) (w : Addr) : List Form :=
  [⟨0x23#8, .rlaIzx b, .izx b, false, 8⟩, ⟨0x27#8, .rlaZp b, .zp b, false, 5⟩,
   ⟨0x2F#8, .rlaAbs w, .abs w, false, 6⟩, ⟨0x33#8, .rlaIzy b, .izy b, false, 8⟩,
   ⟨0x37#8, .rlaZpx b, .zpx b, false, 6⟩, ⟨0x3B#8, .rlaAby w, .aby w, false, 7⟩,
   ⟨0x3F#8, .rlaAbx w, .abx w, false, 7⟩]

/-- The forms of `SRE` (R167). -/
def sreForms (b : Byte) (w : Addr) : List Form :=
  [⟨0x43#8, .sreIzx b, .izx b, false, 8⟩, ⟨0x47#8, .sreZp b, .zp b, false, 5⟩,
   ⟨0x4F#8, .sreAbs w, .abs w, false, 6⟩, ⟨0x53#8, .sreIzy b, .izy b, false, 8⟩,
   ⟨0x57#8, .sreZpx b, .zpx b, false, 6⟩, ⟨0x5B#8, .sreAby w, .aby w, false, 7⟩,
   ⟨0x5F#8, .sreAbx w, .abx w, false, 7⟩]

/-- The forms of `RRA` (R168). -/
def rraForms (b : Byte) (w : Addr) : List Form :=
  [⟨0x63#8, .rraIzx b, .izx b, false, 8⟩, ⟨0x67#8, .rraZp b, .zp b, false, 5⟩,
   ⟨0x6F#8, .rraAbs w, .abs w, false, 6⟩, ⟨0x73#8, .rraIzy b, .izy b, false, 8⟩,
   ⟨0x77#8, .rraZpx b, .zpx b, false, 6⟩, ⟨0x7B#8, .rraAby w, .aby w, false, 7⟩,
   ⟨0x7F#8, .rraAbx w, .abx w, false, 7⟩]

/-- The forms of `DCP` (R169). -/
def dcpForms (b : Byte) (w : Addr) : List Form :=
  [⟨0xC3#8, .dcpIzx b, .izx b, false, 8⟩, ⟨0xC7#8, .dcpZp b, .zp b, false, 5⟩,
   ⟨0xCF#8, .dcpAbs w, .abs w, false, 6⟩, ⟨0xD3#8, .dcpIzy b, .izy b, false, 8⟩,
   ⟨0xD7#8, .dcpZpx b, .zpx b, false, 6⟩, ⟨0xDB#8, .dcpAby w, .aby w, false, 7⟩,
   ⟨0xDF#8, .dcpAbx w, .abx w, false, 7⟩]

/-- The forms of `ISB` (R170). -/
def isbForms (b : Byte) (w : Addr) : List Form :=
  [⟨0xE3#8, .isbIzx b, .izx b, false, 8⟩, ⟨0xE7#8, .isbZp b, .zp b, false, 5⟩,
   ⟨0xEF#8, .isbAbs w, .abs w, false, 6⟩, ⟨0xF3#8, .isbIzy b, .izy b, false, 8⟩,
   ⟨0xF7#8, .isbZpx b, .zpx b, false, 6⟩, ⟨0xFB#8, .isbAby w, .aby w, false, 7⟩,
   ⟨0xFF#8, .isbAbx w, .abx w, false, 7⟩]

/-- The forms of `AAC` (R173). -/
def aacForms (b : Byte) (_w : Addr) : List Form :=
  [⟨0x0B#8, .aacImm0B b, .imm b, false, 2⟩, ⟨0x2B#8, .aacImm2B b, .imm b, false, 2⟩]

/-- The forms of `ASR` (R174). -/
def asrForms (b : Byte) (_w : Addr) : List Form :=
  [⟨0x4B#8, .asrImm b, .imm b, false, 2⟩]

/-- The forms of `ARR` (R175). -/
def arrForms (b : Byte) (_w : Addr) : List Form :=
  [⟨0x6B#8, .arrImm b, .imm b, false, 2⟩]

/-- The forms of `AXS` (R176). -/
def axsForms (b : Byte) (_w : Addr) : List Form :=
  [⟨0xCB#8, .axsImm b, .imm b, false, 2⟩]

/-- The immediate `NOP` forms (SKB, R179). -/
def skbForms (b : Byte) (_w : Addr) : List Form :=
  [⟨0x80#8, .nopImm80 b, .imm b, false, 2⟩, ⟨0x82#8, .nopImm82 b, .imm b, false, 2⟩,
   ⟨0x89#8, .nopImm89 b, .imm b, false, 2⟩, ⟨0xC2#8, .nopImmC2 b, .imm b, false, 2⟩,
   ⟨0xE2#8, .nopImmE2 b, .imm b, false, 2⟩]

/-- The memory `NOP` forms (IGN, R180). -/
def ignForms (b : Byte) (w : Addr) : List Form :=
  [⟨0x04#8, .nopZp04 b, .zp b, false, 3⟩, ⟨0x0C#8, .nopAbs w, .abs w, false, 4⟩,
   ⟨0x14#8, .nopZpx14 b, .zpx b, false, 4⟩, ⟨0x1C#8, .nopAbx1C w, .abx w, true, 4⟩,
   ⟨0x34#8, .nopZpx34 b, .zpx b, false, 4⟩, ⟨0x3C#8, .nopAbx3C w, .abx w, true, 4⟩,
   ⟨0x44#8, .nopZp44 b, .zp b, false, 3⟩, ⟨0x54#8, .nopZpx54 b, .zpx b, false, 4⟩,
   ⟨0x5C#8, .nopAbx5C w, .abx w, true, 4⟩, ⟨0x64#8, .nopZp64 b, .zp b, false, 3⟩,
   ⟨0x74#8, .nopZpx74 b, .zpx b, false, 4⟩, ⟨0x7C#8, .nopAbx7C w, .abx w, true, 4⟩,
   ⟨0xD4#8, .nopZpxD4 b, .zpx b, false, 4⟩, ⟨0xDC#8, .nopAbxDC w, .abx w, true, 4⟩,
   ⟨0xF4#8, .nopZpxF4 b, .zpx b, false, 4⟩, ⟨0xFC#8, .nopAbxFC w, .abx w, true, 4⟩]

/-- The forms of `ANE` (R183). -/
def aneForms (b : Byte) (_w : Addr) : List Form :=
  [⟨0x8B#8, .aneImm b, .imm b, false, 2⟩]

/-- The forms of `LXA` (R184). -/
def lxaForms (b : Byte) (_w : Addr) : List Form :=
  [⟨0xAB#8, .lxaImm b, .imm b, false, 2⟩]

/-- The forms of `SHA` (R185). -/
def shaForms (b : Byte) (w : Addr) : List Form :=
  [⟨0x93#8, .shaIzy b, .izy b, false, 6⟩, ⟨0x9F#8, .shaAby w, .aby w, false, 5⟩]

/-- The forms of `SHX` (R186). -/
def shxForms (_b : Byte) (w : Addr) : List Form :=
  [⟨0x9E#8, .shxAby w, .aby w, false, 5⟩]

/-- The forms of `SHY` (R187). -/
def shyForms (_b : Byte) (w : Addr) : List Form :=
  [⟨0x9C#8, .shyAbx w, .abx w, false, 5⟩]

/-- The forms of `TAS` (R188). -/
def tasForms (_b : Byte) (w : Addr) : List Form :=
  [⟨0x9B#8, .tasAby w, .aby w, false, 5⟩]

/-- The forms of `LAS` (R189). -/
def lasForms (_b : Byte) (w : Addr) : List Form :=
  [⟨0xBB#8, .lasAby w, .aby w, true, 4⟩]

end Sys2Proof.Claims

open Sys2Proof Sys2Proof.Machine Sys2Proof.Claims

/-! ### What each instruction does -/

/-- R104, R105, R106, R171: a load puts `M` in its register (LAX in A and X) and sets Z and N from it. -/
def Obligations.LoadForms : Prop :=
  ∀ s : State,
    ReadsAs ldaForms (fun m c => { c with a := m, stat := zn m c.stat }) s ∧
    ReadsAs ldxForms (fun m c => { c with x := m, stat := zn m c.stat }) s ∧
    ReadsAs ldyForms (fun m c => { c with y := m, stat := zn m c.stat }) s ∧
    ReadsAs laxForms (fun m c => { c with a := m, x := m, stat := zn m c.stat }) s

/-- R107, R108, R109, R172: a store writes its register (SAX: A AND X) once; no register or flag changes. -/
def Obligations.StoreForms : Prop :=
  ∀ s : State,
    WritesAs staForms (fun _ c => c.a) s ∧ WritesAs stxForms (fun _ c => c.x) s ∧
    WritesAs styForms (fun _ c => c.y) s ∧ WritesAs saxForms (fun _ c => c.a &&& c.x) s

/-- R110-R115 and R135-R138: the transfers, and the increments and decrements of X and Y. -/
def Obligations.TransferAndCountForms : Prop :=
  ∀ s : State,
    ChangesAs 0xAA#8 .tax 2 (fun c => { c with x := c.a, stat := zn c.a c.stat }) s ∧
    ChangesAs 0xA8#8 .tay 2 (fun c => { c with y := c.a, stat := zn c.a c.stat }) s ∧
    ChangesAs 0x8A#8 .txa 2 (fun c => { c with a := c.x, stat := zn c.x c.stat }) s ∧
    ChangesAs 0x98#8 .tya 2 (fun c => { c with a := c.y, stat := zn c.y c.stat }) s ∧
    ChangesAs 0xBA#8 .tsx 2 (fun c => { c with x := c.sp, stat := zn c.sp c.stat }) s ∧
    ChangesAs 0x9A#8 .txs 2 (fun c => { c with sp := c.x }) s ∧
    ChangesAs 0xE8#8 .inx 2 (fun c => { c with x := c.x + 1#8, stat := zn (c.x + 1#8) c.stat }) s ∧
    ChangesAs 0xC8#8 .iny 2 (fun c => { c with y := c.y + 1#8, stat := zn (c.y + 1#8) c.stat }) s ∧
    ChangesAs 0xCA#8 .dex 2 (fun c => { c with x := c.x - 1#8, stat := zn (c.x - 1#8) c.stat }) s ∧
    ChangesAs 0x88#8 .dey 2 (fun c => { c with y := c.y - 1#8, stat := zn (c.y - 1#8) c.stat }) s

/-- R116-R119: the pushes store at `0x0100 | SP` and decrement SP; the pulls increment SP and read there.
PHP pushes STAT with both B bits set; PLP masks the pulled B bits back in. -/
def Obligations.StackForms : Prop :=
  ∀ s : State,
    encode .pha = [0x48#8] ∧ encode .php = [0x08#8] ∧ encode .pla = [0x68#8] ∧ encode .plp = [0x28#8] ∧
    exec .pha s = .next { s with
      bus := { s.bus with ram := pushedOn s.bus.ram s.cpu.sp [s.cpu.a] }
      cpu := { s.cpu with sp := s.cpu.sp - 1#8, next := s.cpu.cycl + 3 } } ∧
    exec .php s = .next { s with
      bus := { s.bus with ram := pushedOn s.bus.ram s.cpu.sp [s.cpu.stat ||| 0x30#8] }
      cpu := { s.cpu with sp := s.cpu.sp - 1#8, next := s.cpu.cycl + 3 } } ∧
    exec .pla s = .next { s with cpu := { s.cpu with
      a := s.bus.ram.get (stackCell (s.cpu.sp + 1#8))
      stat := zn (s.bus.ram.get (stackCell (s.cpu.sp + 1#8))) s.cpu.stat
      sp := s.cpu.sp + 1#8
      next := s.cpu.cycl + 4 } } ∧
    exec .plp s = .next { s with cpu := { s.cpu with
      stat := (s.bus.ram.get (stackCell (s.cpu.sp + 1#8)) &&& 0xCF#8) ||| 0x20#8
      sp := s.cpu.sp + 1#8
      next := s.cpu.cycl + 4 } }

/-- R120, R124: A plus `m` plus a carry. The sum is exact; C is its ninth bit, and V says that both
operands have one sign and the result the other. -/
def Sys2Proof.Claims.added (m : Byte) (carry : Nat) (c : Cpu) : Cpu :=
  let sum := c.a.toNat + m.toNat + carry
  let r := BitVec.ofNat 8 sum
  { c with
    a := r
    stat := withC (decide (255 < sum))
      (withV ((c.a ^^^ m) &&& 0x80#8 == 0#8 && (c.a ^^^ r) &&& 0x80#8 != 0#8) (zn r c.stat)) }

/-- R121, R125: A minus `m` minus a borrow. The difference is exact; C says that it is not negative, and V
that the operands have different signs and the result's sign is not A's. -/
def Sys2Proof.Claims.subtracted (m : Byte) (borrow : Nat) (c : Cpu) : Cpu :=
  let diff : Int := (c.a.toNat : Int) - m.toNat - borrow
  let r := BitVec.ofInt 8 diff
  { c with
    a := r
    stat := withC (decide (0 ≤ diff))
      (withV (c.a.msb != m.msb && r.msb != c.a.msb) (zn r c.stat)) }

/-- R120, R121, R124, R125, R177: ADC, SBC and the duplicate SBC, whatever D holds (R24). -/
def Obligations.AddSubtractForms : Prop :=
  ∀ s : State,
    ReadsAs adcForms (fun m c => added m (carryIn c) c) s ∧
    ReadsAs sbcForms (fun m c => subtracted m (1 - carryIn c) c) s

/-- R126-R129: AND, ORA and EOR; BIT takes Z from `A & M` and N and V from bits 7 and 6 of M. -/
def Obligations.LogicForms : Prop :=
  ∀ s : State,
    ReadsAs andForms (fun m c => { c with a := c.a &&& m, stat := zn (c.a &&& m) c.stat }) s ∧
    ReadsAs oraForms (fun m c => { c with a := c.a ||| m, stat := zn (c.a ||| m) c.stat }) s ∧
    ReadsAs eorForms (fun m c => { c with a := c.a ^^^ m, stat := zn (c.a ^^^ m) c.stat }) s ∧
    ReadsAs bitForms (fun m c => { c with
      stat := (c.stat &&& 0x3D#8) ||| (if c.a &&& m = 0#8 then 0x02#8 else 0x00#8) ||| (m &&& 0xC0#8) }) s

/-- The flags of `Compare(reg, m)` (R122). -/
def Sys2Proof.Claims.compared (reg m : Byte) (c : Cpu) : Cpu :=
  { c with stat := withC (decide (m.toNat ≤ reg.toNat)) (zn (reg - m) c.stat) }

/-- R122, R130-R132: the compares write C, Z and N, and no register. -/
def Obligations.CompareForms : Prop :=
  ∀ s : State,
    ReadsAs cmpForms (fun m c => compared c.a m c) s ∧ ReadsAs cpxForms (fun m c => compared c.x m c) s ∧
    ReadsAs cpyForms (fun m c => compared c.y m c) s

/-- `ShiftLeft`, `ShiftRight`, `RotateLeft` and `RotateRight` with the carry before the instruction
(R123): the result. The new carry is bit 7 of the operand to the left and bit 0 to the right. -/
def Sys2Proof.Claims.rolled (m : Byte) (c : Cpu) : Byte :=
  (m <<< 1) ||| (if c.stat.getLsbD 0 then 0x01#8 else 0x00#8)

/-- `RotateRight` (R123): the result. -/
def Sys2Proof.Claims.rored (m : Byte) (c : Cpu) : Byte :=
  (m >>> 1) ||| (if c.stat.getLsbD 0 then 0x80#8 else 0x00#8)

/-- STAT after a shift or rotate: the bit shifted out in C, Z and N from the result. -/
def Sys2Proof.Claims.shiftedStat (out : Bool) (res st : Byte) : Byte := withC out (zn res st)

/-- R133, R134, R139-R142: INC, DEC and the shifts and rotates, on memory and on A. -/
def Obligations.CountAndShiftForms : Prop :=
  ∀ s : State,
    ModifiesAs incForms (fun m _ => m + 1#8) (fun m c => { c with stat := zn (m + 1#8) c.stat }) s ∧
    ModifiesAs decForms (fun m _ => m - 1#8) (fun m c => { c with stat := zn (m - 1#8) c.stat }) s ∧
    ModifiesAs aslForms (fun m _ => m <<< 1)
      (fun m c => { c with stat := shiftedStat (m.getLsbD 7) (m <<< 1) c.stat }) s ∧
    ModifiesAs lsrForms (fun m _ => m >>> 1)
      (fun m c => { c with stat := shiftedStat (m.getLsbD 0) (m >>> 1) c.stat }) s ∧
    ModifiesAs rolForms rolled
      (fun m c => { c with stat := shiftedStat (m.getLsbD 7) (rolled m c) c.stat }) s ∧
    ModifiesAs rorForms rored
      (fun m c => { c with stat := shiftedStat (m.getLsbD 0) (rored m c) c.stat }) s ∧
    ChangesAs 0x0A#8 .aslAcc 2 (fun c =>
      { c with a := c.a <<< 1, stat := shiftedStat (c.a.getLsbD 7) (c.a <<< 1) c.stat }) s ∧
    ChangesAs 0x4A#8 .lsrAcc 2 (fun c =>
      { c with a := c.a >>> 1, stat := shiftedStat (c.a.getLsbD 0) (c.a >>> 1) c.stat }) s ∧
    ChangesAs 0x2A#8 .rolAcc 2 (fun c =>
      { c with a := rolled c.a c, stat := shiftedStat (c.a.getLsbD 7) (rolled c.a c) c.stat }) s ∧
    ChangesAs 0x6A#8 .rorAcc 2 (fun c =>
      { c with a := rored c.a c, stat := shiftedStat (c.a.getLsbD 0) (rored c.a c) c.stat }) s

/-- The eight branches: opcode, instruction, and the STAT bit it tests with the value that takes it
(R144-R151). -/
def Sys2Proof.Claims.branches : List (Byte × (Byte → Instr) × Nat × Bool) :=
  [(0x10#8, .bpl, 7, false), (0x30#8, .bmi, 7, true), (0x50#8, .bvc, 6, false), (0x70#8, .bvs, 6, true),
   (0x90#8, .bcc, 0, false), (0xB0#8, .bcs, 0, true), (0xD0#8, .bne, 1, false), (0xF0#8, .beq, 1, true)]

/-- The target of a branch whose next instruction is at `pc`: the offset is a signed byte (R100). -/
def Sys2Proof.Claims.branchTarget (pc : Addr) (o : Byte) : Addr := pc + BitVec.ofInt 16 o.toInt

/-- R143-R151: a branch goes to its target when its flag has its value, in 3 cycles on the page of the next
instruction and 4 off it, and else falls through in 2. -/
def Obligations.BranchForms : Prop :=
  ∀ (s : State) (o : Byte), ∀ f ∈ branches, encode (f.2.1 o) = [f.1, o] ∧
    (s.cpu.stat.getLsbD f.2.2.1 = f.2.2.2 →
      exec (f.2.1 o) s = .next { s with cpu := { s.cpu with
        pc := branchTarget s.cpu.pc o
        next := s.cpu.cycl +
          (if hi s.cpu.pc = hi (branchTarget s.cpu.pc o) then 3 else 4) } }) ∧
    (s.cpu.stat.getLsbD f.2.2.1 ≠ f.2.2.2 →
      exec (f.2.1 o) s = .next { s with cpu := { s.cpu with next := s.cpu.cycl + 2 } })

/-- R152-R154: JMP in both forms (the indirect pointer's high byte comes from the pointer's own page), JSR
pushing the address of its last byte, RTS returning one past the address it pulls. -/
def Obligations.JumpForms : Prop :=
  ∀ (s : State) (w : Addr),
    encode (.jmpAbs w) = [0x4C#8, lo w, hi w] ∧ encode (.jmpInd w) = [0x6C#8, lo w, hi w] ∧
    encode (.jsrAbs w) = [0x20#8, lo w, hi w] ∧ encode .rts = [0x60#8] ∧
    exec (.jmpAbs w) s = .next { s with cpu := { s.cpu with pc := w, next := s.cpu.cycl + 3 } } ∧
    exec (.jmpInd w) s = .next
      { (busRead ((w &&& 0xFF00#16) ||| ((w + 1#16) &&& 0x00FF#16)) (busRead w s).2).2 with
        cpu := { s.cpu with
          pc := mkAddr (busRead ((w &&& 0xFF00#16) ||| ((w + 1#16) &&& 0x00FF#16)) (busRead w s).2).1
            (busRead w s).1
          next := s.cpu.cycl + 5 } } ∧
    exec (.jsrAbs w) s = .next { s with
      bus := { s.bus with
        ram := pushedOn s.bus.ram s.cpu.sp [hi (s.cpu.pc - 1#16), lo (s.cpu.pc - 1#16)] }
      cpu := { s.cpu with pc := w, sp := s.cpu.sp - 2#8, next := s.cpu.cycl + 6 } } ∧
    exec .rts s = .next { s with cpu := { s.cpu with
      pc := mkAddr (s.bus.ram.get (stackCell (s.cpu.sp + 2#8)))
        (s.bus.ram.get (stackCell (s.cpu.sp + 1#8))) + 1#16
      sp := s.cpu.sp + 2#8
      next := s.cpu.cycl + 6 } }

/-- R155, R156: BRK pushes the address after its padding byte and STAT with both B bits set, sets I and
takes the vector at $FFFE; RTI pulls STAT with its B bits masked back in, and PC, unchanged. -/
def Obligations.BreakAndReturnForms : Prop :=
  ∀ s : State,
    encode .brk = [0x00#8] ∧ encode .rti = [0x40#8] ∧
    exec .brk s = .next { s with
      bus := { s.bus with ram := (pushedOn s.bus.ram s.cpu.sp
        [hi (s.cpu.pc + 1#16), lo (s.cpu.pc + 1#16), s.cpu.stat ||| 0x30#8]) }
      cpu := { s.cpu with
        pc := cartWord s.cart 0xFFFE#16
        sp := s.cpu.sp - 3#8
        stat := s.cpu.stat ||| 0x04#8
        next := s.cpu.cycl + 7 } } ∧
    exec .rti s = .next { s with cpu := { s.cpu with
      pc := mkAddr (s.bus.ram.get (stackCell (s.cpu.sp + 3#8)))
        (s.bus.ram.get (stackCell (s.cpu.sp + 2#8)))
      sp := s.cpu.sp + 3#8
      stat := (s.bus.ram.get (stackCell (s.cpu.sp + 1#8)) &&& 0xCF#8) ||| 0x20#8
      next := s.cpu.cycl + 6 } }

/-- R157-R163: each flag instruction changes its one bit of STAT. -/
def Obligations.FlagForms : Prop :=
  ∀ s : State,
    ChangesAs 0x18#8 .clc 2 (fun c => { c with stat := c.stat &&& 0xFE#8 }) s ∧
    ChangesAs 0x38#8 .sec 2 (fun c => { c with stat := c.stat ||| 0x01#8 }) s ∧
    ChangesAs 0x58#8 .cli 2 (fun c => { c with stat := c.stat &&& 0xFB#8 }) s ∧
    ChangesAs 0x78#8 .sei 2 (fun c => { c with stat := c.stat ||| 0x04#8 }) s ∧
    ChangesAs 0xB8#8 .clv 2 (fun c => { c with stat := c.stat &&& 0xBF#8 }) s ∧
    ChangesAs 0xD8#8 .cld 2 (fun c => { c with stat := c.stat &&& 0xF7#8 }) s ∧
    ChangesAs 0xF8#8 .sed 2 (fun c => { c with stat := c.stat ||| 0x08#8 }) s

/-- The implied `NOP` opcodes (R164, R178). -/
def Sys2Proof.Claims.impliedNops : List (Byte × Instr) :=
  [(0xEA#8, .nop), (0x1A#8, .nop1A), (0x3A#8, .nop3A), (0x5A#8, .nop5A), (0x7A#8, .nop7A),
   (0xDA#8, .nopDA), (0xFA#8, .nopFA)]

/-- The twelve `KIL` opcodes (R181). -/
def Sys2Proof.Claims.kilOpcodes : List (Byte × Instr) :=
  [(0x02#8, .kil02), (0x12#8, .kil12), (0x22#8, .kil22), (0x32#8, .kil32), (0x42#8, .kil42),
   (0x52#8, .kil52), (0x62#8, .kil62), (0x72#8, .kil72), (0x92#8, .kil92), (0xB2#8, .kilB2),
   (0xD2#8, .kilD2), (0xF2#8, .kilF2)]

/-- R164, R178-R181: the NOPs change nothing but `next` (SKB and IGN make their one read first); KIL is
counted, and jams the CPU under `KIL_POLICY = jam`. -/
def Obligations.NopAndKilForms : Prop :=
  ∀ s : State,
    (∀ f ∈ impliedNops, ChangesAs f.1 f.2 2 (fun c => c) s) ∧
    ReadsAs skbForms (fun _ c => c) s ∧ ReadsAs ignForms (fun _ c => c) s ∧
    (∀ f ∈ kilOpcodes, ChangesAs f.1 f.2 2 (fun c => { c with
      killCount := c.killCount + 1
      jammed := c.jammed || s.launch.kilPolicy == .jam }) s)

/-- R165-R170: the combined read-modify-write opcodes: the byte written, and A and the flags after. -/
def Obligations.CombinedForms : Prop :=
  ∀ s : State,
    ModifiesAs sloForms (fun m _ => m <<< 1) (fun m c => { c with
      a := c.a ||| (m <<< 1)
      stat := shiftedStat (m.getLsbD 7) (c.a ||| (m <<< 1)) c.stat }) s ∧
    ModifiesAs rlaForms rolled (fun m c => { c with
      a := c.a &&& rolled m c
      stat := shiftedStat (m.getLsbD 7) (c.a &&& rolled m c) c.stat }) s ∧
    ModifiesAs sreForms (fun m _ => m >>> 1) (fun m c => { c with
      a := c.a ^^^ (m >>> 1)
      stat := shiftedStat (m.getLsbD 0) (c.a ^^^ (m >>> 1)) c.stat }) s ∧
    ModifiesAs rraForms rored
      (fun m c => added (rored m c) (if m.getLsbD 0 then 1 else 0) c) s ∧
    ModifiesAs dcpForms (fun m _ => m - 1#8) (fun m c => compared c.a (m - 1#8) c) s ∧
    ModifiesAs isbForms (fun m _ => m + 1#8)
      (fun m c => subtracted (m + 1#8) (1 - carryIn c) c) s

/-- R173-R176: the immediate combinations AAC, ASR, ARR and AXS. -/
def Obligations.ImmediateCombinedForms : Prop :=
  ∀ s : State,
    ReadsAs aacForms (fun m c => { c with
      a := c.a &&& m
      stat := shiftedStat ((c.a &&& m).getLsbD 7) (c.a &&& m) c.stat }) s ∧
    ReadsAs asrForms (fun m c => { c with
      a := (c.a &&& m) >>> 1
      stat := shiftedStat ((c.a &&& m).getLsbD 0) ((c.a &&& m) >>> 1) c.stat }) s ∧
    ReadsAs arrForms (fun m c => { c with
      a := rored (c.a &&& m) c
      stat := withV ((rored (c.a &&& m) c).getLsbD 6 ^^ (rored (c.a &&& m) c).getLsbD 5)
        (shiftedStat ((rored (c.a &&& m) c).getLsbD 6) (rored (c.a &&& m) c) c.stat) }) s ∧
    ReadsAs axsForms (fun m c => { c with
      x := (c.a &&& c.x) - m
      stat := shiftedStat (decide (m.toNat ≤ (c.a &&& c.x).toNat)) ((c.a &&& c.x) - m) c.stat }) s

/-- `H1`, one more than the high byte of the address before indexing (R182). -/
def Sys2Proof.Claims.h1 (ea : Addr) (index : Byte) : Byte := hi (ea - zext16 index) + 1#8

/-- R183-R189 under `UNSTABLE_POLICY = nmos`. `ANE_MAGIC` and `LXA_MAGIC` are open: the statement holds
whatever they are. -/
def Obligations.UnstableForms : Prop :=
  ∀ s : State, s.launch.unstablePolicy = .nmos →
    ReadsAs aneForms (fun m c => { c with
      a := (c.a ||| Config.aneMagic) &&& c.x &&& m
      stat := zn ((c.a ||| Config.aneMagic) &&& c.x &&& m) c.stat }) s ∧
    ReadsAs lxaForms (fun m c => { c with
      a := (c.a ||| Config.lxaMagic) &&& m
      x := (c.a ||| Config.lxaMagic) &&& m
      stat := zn ((c.a ||| Config.lxaMagic) &&& m) c.stat }) s ∧
    WritesAs shaForms (fun ea c => c.a &&& c.x &&& h1 ea c.y) s ∧
    WritesAs shxForms (fun ea c => c.x &&& h1 ea c.y) s ∧
    WritesAs shyForms (fun ea c => c.y &&& h1 ea c.x) s ∧
    (∀ (b : Byte) (w : Addr), ∀ f ∈ tasForms b w, f.encoded ∧
      exec f.instr s = .next
        { busWrite (w + zext16 s.cpu.y) (s.cpu.a &&& s.cpu.x &&& h1 (w + zext16 s.cpu.y) s.cpu.y) s with
          cpu := { s.cpu with sp := s.cpu.a &&& s.cpu.x, next := s.cpu.cycl + f.cycles } }) ∧
    ReadsAs lasForms (fun m c => { c with
      a := m &&& c.sp
      x := m &&& c.sp
      sp := m &&& c.sp
      stat := zn (m &&& c.sp) c.stat }) s

/-- The effective address of each mode and its page-cross cycle (40_cpu_step.md section 2). PC has already
passed the operand bytes, so the immediate's own byte is at PC - 1 (log entry 11). The pointers of izx, izy
and ind are read low byte first, and the high byte's address wraps in its page. The page-cross cycle is the
carry out of the low byte (R101). The operand byte `M` is the immediate itself, fetched already (log entry 11),
and for every other operand one bus read at the effective address (R102). -/
def Obligations.AddressingModes : Prop :=
  ∀ (s : State) (b : Byte) (w : Addr) (p : Bool),
    resolve (.imm b) p s = ⟨s.cpu.pc - 1#16, 0, s⟩ ∧
    resolve (.zp b) p s = ⟨BitVec.ofNat 16 b.toNat, 0, s⟩ ∧
    resolve (.zpx b) p s = ⟨BitVec.ofNat 16 ((b.toNat + s.cpu.x.toNat) % 256), 0, s⟩ ∧
    resolve (.zpy b) p s = ⟨BitVec.ofNat 16 ((b.toNat + s.cpu.y.toNat) % 256), 0, s⟩ ∧
    resolve (.abs w) p s = ⟨w, 0, s⟩ ∧
    resolve (.abx w) p s = ⟨BitVec.ofNat 16 (w.toNat + s.cpu.x.toNat),
      if p = true ∧ 255 < w.toNat % 256 + s.cpu.x.toNat then 1 else 0, s⟩ ∧
    resolve (.aby w) p s = ⟨BitVec.ofNat 16 (w.toNat + s.cpu.y.toNat),
      if p = true ∧ 255 < w.toNat % 256 + s.cpu.y.toNat then 1 else 0, s⟩ ∧
    resolve (.rel b) p s = ⟨branchTarget s.cpu.pc b, 0, s⟩ ∧
    (∀ l h : Byte × State,
      busRead (BitVec.ofNat 16 ((b.toNat + s.cpu.x.toNat) % 256)) s = l →
      busRead (BitVec.ofNat 16 ((b.toNat + s.cpu.x.toNat + 1) % 256)) l.2 = h →
      resolve (.izx b) p s = ⟨mkAddr h.1 l.1, 0, h.2⟩) ∧
    (∀ l h : Byte × State,
      busRead (BitVec.ofNat 16 b.toNat) s = l →
      busRead (BitVec.ofNat 16 ((b.toNat + 1) % 256)) l.2 = h →
      resolve (.izy b) p s = ⟨BitVec.ofNat 16 ((mkAddr h.1 l.1).toNat + s.cpu.y.toNat),
        if p = true ∧ 255 < l.1.toNat + s.cpu.y.toNat then 1 else 0, h.2⟩) ∧
    (∀ l h : Byte × State,
      busRead w s = l →
      busRead (BitVec.ofNat 16 (w.toNat / 256 * 256 + (w.toNat + 1) % 256)) l.2 = h →
      resolve (.ind w) p s = ⟨mkAddr h.1 l.1, 0, h.2⟩) ∧
    (∀ e : Resolved, operandByte (.imm b) e = (b, e.state) ∧
      ∀ o : Operand, (∀ x, o ≠ .imm x) → operandByte o e = busRead e.ea e.state)

/-! ### What the instructions leave alone -/

/-- R102, R103: an instruction that neither stores at its effective address nor pushes leaves every byte of
memory, the bus, the cartridge, the launch and `cycl` as they are. -/
def Obligations.StorelessFormsKeepMemory : Prop :=
  ∀ (i : Instr) (s t : State), storesAtEa i = false → pushCount i = 0 → exec i s = .next t →
    (∀ a, byteAt a t = byteAt a s) ∧
    (∀ n, t.ppu.oam.get n = s.ppu.oam.get n ∧ t.ppu.nt.get n = s.ppu.nt.get n ∧
      t.ppu.pal.get n = s.ppu.pal.get n ∧ t.ppu.frameByte n = s.ppu.frameByte n) ∧
    t.bus = s.bus ∧ t.cart = s.cart ∧ t.launch = s.launch ∧ t.cpu.cycl = s.cpu.cycl

/-- R102, R65: an instruction that stores at its effective address changes no byte of RAM but the one there, and
no byte a cartridge image answers but the one there. (A cartridge whose mapper is left free may answer
anything after a store that reaches it, and is shut out only for stores above RAM.) OAM is changed through
$2004 and its mirrors alone, the nametables and the palette through $2007 and its mirrors alone, the frame
buffer never, and where the address is no PPU register nothing of the PPU changes. -/
def Obligations.StoresTouchOnlyTheirByte : Prop :=
  ∀ (i : Instr) (o : Operand) (s t : State), storesAtEa i = true → operandOf i = some o →
    exec i s = .next t → ∀ ea, ea = (resolve o false s).ea →
    (∀ a, ¬ sameByte a ea →
      (a.ult 0x2000#16 = true ∨ ea.ult 0x2000#16 = true ∨ s.cart.kind ≠ .free) →
      byteAt a t = byteAt a s) ∧
    (¬ (0x2000 ≤ ea.toNat ∧ ea.toNat < 0x4000 ∧ ea.toNat % 8 = 4) →
      ∀ n, t.ppu.oam.get n = s.ppu.oam.get n) ∧
    (¬ (0x2000 ≤ ea.toNat ∧ ea.toNat < 0x4000 ∧ ea.toNat % 8 = 7) →
      ∀ n, t.ppu.nt.get n = s.ppu.nt.get n ∧ t.ppu.pal.get n = s.ppu.pal.get n) ∧
    (∀ n, t.ppu.frameByte n = s.ppu.frameByte n) ∧
    (¬ (0x2000 ≤ ea.toNat ∧ ea.toNat < 0x4000) → t.ppu = s.ppu)

/-- R14, R21: a push changes only the bytes `0x0100 | SP`, `0x0100 | (SP - 1)`, ... that it pushes, and
neither the PPU nor the cartridge. -/
def Obligations.PushesTouchOnlyTheirSlots : Prop :=
  ∀ (i : Instr) (s t : State), 0 < pushCount i → exec i s = .next t →
    (∀ a, (∀ k < pushCount i, ¬ sameByte a (0x0100#16 ||| zext16 (s.cpu.sp - BitVec.ofNat 8 k))) →
      byteAt a t = byteAt a s) ∧
    t.cpu.sp = s.cpu.sp - BitVec.ofNat 8 (pushCount i) ∧
    t.ppu = s.ppu ∧ t.cart = s.cart ∧ t.input = s.input

/-- The mnemonics that the table of R22 lets write C. -/
def Sys2Proof.Claims.carryWriters : List String :=
  ["ADC", "SBC", "CMP", "CPX", "CPY", "ASL", "LSR", "ROL", "ROR", "CLC", "SEC", "PLP", "RTI"] ++
  ["SLO", "RLA", "SRE", "RRA", "DCP", "ISB", "AAC", "ASR", "ARR", "AXS"]

/-- The mnemonics that the table of R22 lets write V. -/
def Sys2Proof.Claims.overflowWriters : List String :=
  ["ADC", "SBC", "BIT", "CLV", "PLP", "RTI", "RRA", "ISB", "ARR"]

/-- The mnemonics whose rules write neither Z nor N. -/
def Sys2Proof.Claims.zeroNegativeKeepers : List String :=
  ["STA", "STX", "STY", "SAX", "SHA", "SHX", "SHY", "TAS", "TXS", "PHA", "PHP", "NOP", "KIL"] ++
  ["BPL", "BMI", "BVC", "BVS", "BCC", "BCS", "BNE", "BEQ", "JMP", "JSR", "RTS", "BRK"] ++
  ["CLC", "SEC", "CLI", "SEI", "CLV", "CLD", "SED"]

/-- R22, R103: no instruction changes a flag that its rule does not list. I is written by SEI, CLI, PLP, RTI
and BRK only, D by SED, CLD, PLP and RTI only, the B bits by PLP and RTI only. -/
def Obligations.FlagsHaveOnlyTheirWriters : Prop :=
  ∀ (i : Instr) (s t : State), exec i s = .next t →
    (i.row.mnemonic ∉ carryWriters → t.cpu.c = s.cpu.c) ∧
    (i.row.mnemonic ∉ overflowWriters → t.cpu.v = s.cpu.v) ∧
    (i.row.mnemonic ∈ zeroNegativeKeepers → t.cpu.z = s.cpu.z ∧ t.cpu.n = s.cpu.n) ∧
    (i.row.mnemonic ∉ ["SEI", "CLI", "PLP", "RTI", "BRK"] → t.cpu.i = s.cpu.i) ∧
    (i.row.mnemonic ∉ ["SED", "CLD", "PLP", "RTI"] → t.cpu.d = s.cpu.d) ∧
    (i.row.mnemonic ∉ ["PLP", "RTI"] → t.cpu.b1 = s.cpu.b1 ∧ t.cpu.b2 = s.cpu.b2)

/-! ### Encoding -/

/-- R73: words of the opcode map, written out from its cells, decode to their instructions. -/
def Obligations.DecodesTableWords : Prop :=
  decode [0xA9#8, 0x80#8] = .ok (.ldaImm 0x80#8, []) ∧
  decode [0x8D#8, 0x14#8, 0x40#8] = .ok (.staAbs 0x4014#16, []) ∧
  decode [0x71#8, 0x20#8, 0xEA#8] = .ok (.adcIzy 0x20#8, [0xEA#8]) ∧
  decode [0x6C#8, 0xFF#8, 0x02#8] = .ok (.jmpInd 0x02FF#16, []) ∧
  decode [0x00#8, 0x55#8] = .ok (.brk, [0x55#8]) ∧
  decode [0x97#8, 0x10#8] = .ok (.saxZpy 0x10#8, []) ∧
  decode [0xEB#8, 0x05#8] = .ok (.sbcImmEB 0x05#8, []) ∧
  decode [0x02#8] = .ok (.kil02, []) ∧
  decode [0x8D#8, 0x14#8] = .error (.operandBytesMissing 0x8D#8)

/-- R70-R73: every instruction's encoding decodes to it, whatever bytes follow. -/
def Obligations.DecodeOfEncode : Prop :=
  ∀ (i : Instr) (rest : List Byte), i.wellFormed = true → decode (encode i ++ rest) = .ok (i, rest)

/-- R71, R75, R80: three bytes always begin with an instruction, and an instruction that is read encodes to
the bytes it was read from. -/
def Obligations.EncodeOfDecode : Prop :=
  (∀ (b0 b1 b2 : Byte) (rest : List Byte), ∃ i r, decode (b0 :: b1 :: b2 :: rest) = .ok (i, r)) ∧
  (∀ (bytes rest : List Byte) (i : Instr), decode bytes = .ok (i, rest) →
    i.wellFormed = true ∧ encode i ++ rest = bytes)

/-- R74, R84: an instruction is busy for its row's base cycles and at most 2 more, of which a branch can
have both, a page-sensitive opcode one, and any other none. -/
def Obligations.CyclesFollowTheTable : Prop :=
  ∀ (i : Instr) (s t : State), exec i s = .next t →
    t.cpu.cycl = s.cpu.cycl ∧ 2 ≤ i.row.cycles ∧
    ∃ extra, t.cpu.next = s.cpu.cycl + i.row.cycles + extra ∧ extra ≤ 2 ∧
      (i.row.mode ≠ .rel → extra ≤ if i.row.pageCross then 1 else 0)

/-! ### The step -/

/-- R82, R83: a tick at an instruction boundary with no interrupt to take runs the instruction whose bytes
are at PC, with PC moved past them, then counts the cycle and runs three PPU dots. The first clause is for an
instruction that lies in RAM or in the cartridge, the second for any address: the bytes are those the bus
reads give, with their side effects. -/
def Obligations.StepRunsTheInstruction : Prop :=
  (∀ (s : State) (i : Instr) (rest : List Byte),
    due s → pendingInterrupt s = none →
    (∀ k < i.row.mode.length, plain (s.cpu.pc + BitVec.ofNat 16 k) s) →
    decode [byteAt s.cpu.pc s, byteAt (s.cpu.pc + 1#16) s, byteAt (s.cpu.pc + 2#16) s] = .ok (i, rest) →
    step s = restOfTick (exec i (s.setPc (s.cpu.pc + BitVec.ofNat 16 i.row.mode.length)))) ∧
  (∀ s : State, due s → pendingInterrupt s = none →
    step s = restOfTick (exec (fetchInstr s).1 (fetchInstr s).2))

/-- R82, R83, R87: a tick at which the CPU is not due counts a cycle and runs the PPU; a tick of a jammed CPU
runs the PPU alone. The counter goes up by 1, and at 60,000 it and `next` come down by 60,000. -/
def Obligations.BusyTicksOnlyCount : Prop :=
  (∀ s : State, s.cpu.jammed = false → s.bus.oamDmaCpu = false → s.cpu.cycl ≠ s.cpu.next →
    step s = restOfTick (.next s)) ∧
  (∀ s : State, s.cpu.jammed = true → step s = .next (ppuClocks 3 s)) ∧
  (∀ c : Cpu, c.cycl < 59999 → c.countCycle = { c with cycl := c.cycl + 1 }) ∧
  (∀ c : Cpu, c.cycl = 59999 → 60000 ≤ c.next →
    c.countCycle = { c with cycl := 0, next := c.next - 60000 })

/-- R238: both entries push PC high, PC low and STAT with B1 clear and B2 set, set I, load PC from the vector
and take 7 (IRQ) or 8 (NMI) cycles; nothing else changes. -/
def Obligations.InterruptEntry : Prop :=
  ∀ (k : Interrupt) (s : State),
    enterInterrupt k s = { s with
      bus := { s.bus with ram := (pushedOn s.bus.ram s.cpu.sp
        [hi s.cpu.pc, lo s.cpu.pc, (s.cpu.stat &&& 0xEF#8) ||| 0x20#8]) }
      cpu := { s.cpu with
        pc := cartWord s.cart (match k with | .nmi => 0xFFFA#16 | .irq => 0xFFFE#16)
        sp := s.cpu.sp - 3#8
        stat := s.cpu.stat ||| 0x04#8
        next := s.cpu.next + (match k with | .nmi => 8 | .irq => 7) } }

/-- R82, R235-R237: at a check IRQ, if I is clear, goes before NMI; an NMI that waited is entered at the check
after the IRQ's entry, where I masks the IRQ; with neither, the check enters no interrupt. -/
def Obligations.InterruptPriority : Prop :=
  ∀ s : State, due s →
    (s.bus.irqLine = true → s.cpu.i = false →
      cpuClock s = .next ((enterInterrupt .irq s).mapCpu Cpu.countCycle)) ∧
    (¬ (s.bus.irqLine = true ∧ s.cpu.i = false) → s.bus.nmiSignal = true →
      cpuClock s = .next ((enterInterrupt .nmi
        { s with bus := { s.bus with nmiSignal := false } }).mapCpu Cpu.countCycle)) ∧
    (s.bus.irqLine = true → s.cpu.i = false → s.bus.nmiSignal = true →
      pendingInterrupt (enterInterrupt .irq s) = some .nmi) ∧
    (s.bus.irqLine = false ∨ s.cpu.i = true → s.bus.nmiSignal = false → pendingInterrupt s = none)

/-- R239, R240, R155, R154: RTI after an interrupt's entry resumes where it came in, with STAT and SP as they
were; RTI after BRK resumes past the padding byte; RTS after JSR resumes after the JSR. Whatever SP is. -/
def Obligations.ReturnsUndoEntries : Prop :=
  ∀ s : State, StatInv s → s.bus.ram.wf = true →
    (∀ k, ∃ t, exec .rti (enterInterrupt k s) = .next t ∧
      t.cpu.pc = s.cpu.pc ∧ t.cpu.stat = s.cpu.stat ∧ t.cpu.sp = s.cpu.sp) ∧
    (∃ u t, exec .brk s = .next u ∧ exec .rti u = .next t ∧
      t.cpu.pc = s.cpu.pc + 1#16 ∧ t.cpu.stat = s.cpu.stat ∧ t.cpu.sp = s.cpu.sp) ∧
    (∀ w, ∃ u t, exec (.jsrAbs w) s = .next u ∧ exec .rts u = .next t ∧
      t.cpu.pc = s.cpu.pc ∧ t.cpu.stat = s.cpu.stat ∧ t.cpu.sp = s.cpu.sp)

/-- R87, R247: a jammed CPU stays as it is through any number of ticks; the machine goes on. -/
def Obligations.JammedCpuIsFrozen : Prop :=
  ∀ (k : Nat) (s : State), s.cpu.jammed = true →
    ∃ t, Host.Core.run core k s = .next t ∧ t.cpu = s.cpu ∧ t.bus.ram = s.bus.ram

/-- R234: an NMI request stays until the CPU services it. -/
def Obligations.NmiRequestStaysUntilServiced : Prop :=
  ∀ s t : State, step s = .next t → s.bus.nmiSignal = true →
    t.bus.nmiSignal = true ∨
      (s.cpu.jammed = false ∧ (dmaStall s).cpu.cycl = (dmaStall s).cpu.next ∧
        pendingInterrupt (dmaStall s) = some .nmi)

/-- R232: under `UNSTABLE_POLICY = nmos` a tick from any state gives a next state, with the same launch, so no
number of ticks stops the machine. -/
def Obligations.NeverStopsUnderNmos : Prop :=
  (∀ s : State, s.launch.unstablePolicy = .nmos → ∃ t, step s = .next t ∧ t.launch = s.launch) ∧
  ∀ (k : Nat) (s : State), s.launch.unstablePolicy = .nmos → SafeFor k s

/-- The eight unstable opcodes (R182). -/
def Sys2Proof.Claims.unstableOpcodes : List Byte :=
  [0x8B#8, 0xAB#8, 0x93#8, 0x9F#8, 0x9E#8, 0x9C#8, 0x9B#8, 0xBB#8]

/-- The forms of the eight unstable opcodes (R182). -/
def Sys2Proof.Claims.unstableForms (b : Byte) (w : Addr) : List Form :=
  aneForms b w ++ lxaForms b w ++ shaForms b w ++ shxForms b w ++ shyForms b w ++ tasForms b w ++
    lasForms b w

/-- R86, R182, R232: a tick refuses only under `UNSTABLE_POLICY = refuse`, and only when it fetches one of the
eight unstable opcodes, which it names; and under that policy each of the eight is refused. -/
def Obligations.RefusesOnlyUnstableOpcodes : Prop :=
  (∀ (s : State) (r : Refusal), step s = .refused r →
    s.launch.unstablePolicy = .refuse ∧ r = .unstableOpcode (busRead s.cpu.pc s).1 ∧
      (busRead s.cpu.pc s).1 ∈ unstableOpcodes) ∧
  (∀ (s : State) (b : Byte) (w : Addr), s.launch.unstablePolicy = .refuse →
    ∀ f ∈ unstableForms b w, exec f.instr s = .refused (.unstableOpcode f.opcode))

/-! ### Invariants -/

/-- R23: the register holds B1 = 0 and B2 = 1 for ever. -/
def Obligations.StepKeepsBreakBits : Prop := ∀ s t : State, StatInv s → step s = .next t → StatInv t

/-- R25: `next` is never behind `cycl`, and `cycl` stays below 60,000. -/
def Obligations.StepKeepsCycleOrder : Prop := ∀ s t : State, CycleInv s → step s = .next t → CycleInv t

/-- R10, R35, R40, R42: the PPU's counters and fields stay in their ranges. -/
def Obligations.StepKeepsPpuRanges : Prop := ∀ s t : State, PpuInv s → step s = .next t → PpuInv t

/-- R27, R37-R39, R43: every memory keeps its canonical form and its bounds. -/
def Obligations.StepKeepsMemoryForm : Prop := ∀ s t : State, MemoryInv s → step s = .next t → MemoryInv t

/-- R253: the reset state meets the four invariants. -/
def Obligations.ResetMeetsInvariants : Prop :=
  StatInv State.reset ∧ CycleInv State.reset ∧ PpuInv State.reset ∧ MemoryInv State.reset

/-! ### The bus -/

/-- R46-R50: who answers a CPU read and takes a CPU write, region by region. A debug read gives what a bus
read would give, and 0 at $4016. -/
def Obligations.BusDecode : Prop :=
  ∀ (s : State) (a : Addr) (v : Byte),
    (a.toNat < 0x2000 →
      busRead a s = (s.bus.ram.get (a.toNat % 0x800), s) ∧
      busWrite a v s = { s with bus := { s.bus with ram := s.bus.ram.put (a.toNat % 0x800) v } }) ∧
    (0x2000 ≤ a.toNat → a.toNat < 0x4000 →
      busRead a s = ppuRegRead (a.toNat % 8) s ∧ busWrite a v s = ppuRegWrite (a.toNat % 8) v s) ∧
    (a.toNat = 0x4014 → busRead a s = (s.launch.openBusValue, s) ∧ busWrite a v s = dmaArm v s) ∧
    (a.toNat = 0x4016 → busRead a s = controllerRead s ∧ busWrite a v s = controllerWrite v s) ∧
    (0x4000 ≤ a.toNat → a.toNat < 0x4020 → a.toNat ≠ 0x4014 → a.toNat ≠ 0x4016 →
      busRead a s = (s.launch.openBusValue, s) ∧ busWrite a v s = s) ∧
    (0x4020 ≤ a.toNat → a.toNat < 0x8000 → s.launch.cartLowWindow = .unmapped →
      busRead a s = (s.launch.openBusValue, s) ∧ busWrite a v s = s) ∧
    (0x4020 ≤ a.toNat → a.toNat < 0x8000 → s.launch.cartLowWindow = .cartridge →
      busRead a s = (s.cart.cpuRead a, s) ∧ busWrite a v s = { s with cart := s.cart.cpuWrite a v }) ∧
    (0x8000 ≤ a.toNat →
      busRead a s = (s.cart.cpuRead a, s) ∧ busWrite a v s = { s with cart := s.cart.cpuWrite a v }) ∧
    peekRead a s = (if a.toNat = 0x4016 then 0x00#8 else (busRead a s).1)

/-- R52, R53: a word is read low byte first; the next byte's address wraps at $FFFF, or in its page for the
wrapping read. -/
def Obligations.WordReads : Prop :=
  ∀ (s : State) (a : Addr) (l h h' : Byte × State),
    busRead a s = l →
    busRead (BitVec.ofNat 16 ((a.toNat + 1) % 65536)) l.2 = h →
    busRead (BitVec.ofNat 16 (a.toNat / 256 * 256 + (a.toNat + 1) % 256)) l.2 = h' →
    readWord a s = (BitVec.ofNat 16 (h.1.toNat * 256 + l.1.toNat), h.2) ∧
    readWordWrap a s = (BitVec.ofNat 16 (h'.1.toNat * 256 + l.1.toNat), h'.2)

/-- The bank of a nametable address (R60). -/
def Sys2Proof.Claims.bankOf (m : Mirroring) (n : Nat) : Nat :=
  match m with
  | .horizontal => n / 2048 % 2
  | .vertical => n / 1024 % 2
  | .fourScreen => n / 1024 % 4

/-- The palette cell of an address (R61). -/
def Sys2Proof.Claims.paletteCell (n : Nat) : Nat :=
  if n % 32 = 16 ∨ n % 32 = 20 ∨ n % 32 = 24 ∨ n % 32 = 28 then n % 32 - 16 else n % 32

/-- R58-R61: the PPU address space: pattern tables at the cartridge, mirrored nametables, 6-bit palette with
its mirrors and the greyscale mask; and in a canonical memory a byte written reads back. -/
def Obligations.PpuAddressSpace : Prop :=
  ∀ (s : State) (a : Addr) (v : Byte) (n : Nat), a.toNat % 16384 = n →
    (n < 0x2000 →
      ppuRead a s = s.cart.ppuRead (BitVec.ofNat 16 n) ∧
      ppuWrite a v s = { s with cart := s.cart.ppuWrite (BitVec.ofNat 16 n) v }) ∧
    (0x2000 ≤ n → n < 0x3F00 →
      ppuRead a s = s.ppu.nt.get (1024 * bankOf s.cart.mirroring n + n % 1024) ∧
      ppuWrite a v s = { s with ppu := { s.ppu with
        nt := s.ppu.nt.put (1024 * bankOf s.cart.mirroring n + n % 1024) v } } ∧
      (MemoryInv s → ppuRead a (ppuWrite a v s) = v)) ∧
    (0x3F00 ≤ n →
      ppuRead a s = s.ppu.pal.get (paletteCell n) &&& (if s.ppu.mask.getLsbD 0 then 0x30#8 else 0x3F#8) ∧
      ppuWrite a v s = { s with ppu := { s.ppu with pal := s.ppu.pal.put (paletteCell n) (v &&& 0x3F#8) } } ∧
      (MemoryInv s → ppuRead a (ppuWrite a v s) =
        v &&& (if s.ppu.mask.getLsbD 0 then 0x30#8 else 0x3F#8)))

/-- One byte of the OAM copy of R64: the source is read first, and then `oam_addr` is used (log entry 16). -/
def Sys2Proof.Claims.copyByte (s : State) (i : Nat) : State :=
  { (busRead (s.bus.oamDmaAddr + BitVec.ofNat 16 i) s).2 with
    ppu := { (busRead (s.bus.oamDmaAddr + BitVec.ofNat 16 i) s).2.ppu with
      oam := s.ppu.oam.put
        (((busRead (s.bus.oamDmaAddr + BitVec.ofNat 16 i) s).2.ppu.oamAddr.toNat + i) % 256)
        (busRead (s.bus.oamDmaAddr + BitVec.ofNat 16 i) s).1 } }

/-- R62-R64: a $4014 write arms the handshake; the CPU's next clock first adds 513 or, on an odd cycle, 514;
the PPU's next clock first copies 256 bytes in order. From a page of RAM, byte `i` of the page is at
`oam_addr + i`. That each byte's source is read before `oam_addr` is used is the model's reading of R64 (log entry
16, DEDUCED); it matters only for a copy from a page of $20 to $3F. -/
def Obligations.OamDma : Prop :=
  (∀ (s : State) (v : Byte),
    busWrite 0x4014#16 v s = { s with bus := { s.bus with
      oamDmaCpu := true, oamDmaPpu := true, oamDmaAddr := BitVec.ofNat 16 (v.toNat * 256) } }) ∧
  (∀ s : State, s.bus.oamDmaCpu = true →
    dmaStall s = { s with
      cpu := { s.cpu with next := s.cpu.next + (if s.cpu.cycl % 2 = 1 then 514 else 513) }
      bus := { s.bus with oamDmaCpu := false } } ∧
    (s.cpu.jammed = false → cpuClock s = cpuClock (dmaStall s))) ∧
  (∀ s : State, s.bus.oamDmaPpu = true →
    dmaDrain s = { (List.range 256).foldl copyByte s with
      bus := { s.bus with oamDmaPpu := false } } ∧
    ppuClock s = ppuClock (dmaDrain s)) ∧
  (∀ s : State, s.bus.oamDmaPpu = true → s.bus.oamDmaAddr.toNat + 255 < 0x2000 → s.ppu.oam.wf = true →
    (∀ i < 256, (dmaDrain s).ppu.oam.get ((s.ppu.oamAddr.toNat + i) % 256) =
      s.bus.ram.get ((s.bus.oamDmaAddr.toNat + i) % 0x800)) ∧
    (dmaDrain s).ppu.oamAddr = s.ppu.oamAddr ∧ (dmaDrain s).bus.ram = s.bus.ram)

/-- R190-R197: the control, mask, status and OAM registers, at every mirror of theirs. -/
def Obligations.PpuRegisters : Prop :=
  ∀ (s : State) (a : Addr) (v : Byte), 0x2000 ≤ a.toNat → a.toNat < 0x4000 →
    (a.toNat % 8 ∈ [0, 1, 3, 5, 6] → busRead a s = (0x00#8, s)) ∧
    (a.toNat % 8 = 0 → busWrite a v s = { s with
      ppu := { s.ppu with
        ctrl := v
        t := (s.ppu.t &&& 0x73FF#16) ||| (zext16 (v &&& 0x03#8) <<< 10) }
      bus := { s.bus with nmiSignal := s.bus.nmiSignal ||
        (s.launch.nmiOnCtrlEnable && !s.ppu.ctrl.getLsbD 7 && v.getLsbD 7 && s.ppu.vblank) } }) ∧
    (a.toNat % 8 = 1 → busWrite a v s = { s with ppu := { s.ppu with mask := v } }) ∧
    (a.toNat % 8 = 2 →
      busRead a s =
        ((if s.ppu.vblank then 0x80#8 else 0x00#8) ||| (if s.ppu.sprite0Hit then 0x40#8 else 0x00#8) |||
            (if s.ppu.spriteOverflow then 0x20#8 else 0x00#8),
          { s with ppu := { s.ppu with w := false, nmiOccurred := false, vblank := false } }) ∧
      busWrite a v s = s) ∧
    (a.toNat % 8 = 3 → busWrite a v s = { s with ppu := { s.ppu with oamAddr := v } }) ∧
    (a.toNat % 8 = 4 →
      busRead a s = (s.ppu.oam.get s.ppu.oamAddr.toNat,
        { s with ppu := { s.ppu with oamAddr := s.ppu.oamAddr + 1#8 } }) ∧
      busWrite a v s = { s with ppu := { s.ppu with
        oam := s.ppu.oam.put s.ppu.oamAddr.toNat v, oamAddr := s.ppu.oamAddr + 1#8 } })

/-- R198, R199: the two writes of $2005 and of $2006, by the fields of `t` they fill; `v` is written by the
second $2006 write alone, which copies `t`. -/
def Obligations.ScrollAndAddressWrites : Prop :=
  ∀ (s : State) (a : Addr) (b : Byte), 0x2000 ≤ a.toNat → a.toNat < 0x4000 →
    (a.toNat % 8 = 5 → s.ppu.w = false → ∃ t', busWrite a b s =
        { s with ppu := { s.ppu with fineX := BitVec.ofNat 3 (b.toNat % 8), t := t', w := true } } ∧
      (coarseX t').toNat = b.toNat / 8 ∧ coarseY t' = coarseY s.ppu.t ∧
      nametableX t' = nametableX s.ppu.t ∧ nametableY t' = nametableY s.ppu.t ∧
      fineY t' = fineY s.ppu.t ∧ t'.getLsbD 15 = false) ∧
    (a.toNat % 8 = 5 → s.ppu.w = true → ∃ t', busWrite a b s =
        { s with ppu := { s.ppu with t := t', w := false } } ∧
      (coarseY t').toNat = b.toNat / 8 ∧ (fineY t').toNat = b.toNat % 8 ∧ coarseX t' = coarseX s.ppu.t ∧
      nametableX t' = nametableX s.ppu.t ∧ nametableY t' = nametableY s.ppu.t ∧ t'.getLsbD 15 = false) ∧
    (a.toNat % 8 = 6 → s.ppu.w = false → ∃ t', busWrite a b s =
        { s with ppu := { s.ppu with t := t', w := true } } ∧
      t'.toNat = b.toNat % 64 * 256 + s.ppu.t.toNat % 256) ∧
    (a.toNat % 8 = 6 → s.ppu.w = true → ∃ t', busWrite a b s =
        { s with ppu := { s.ppu with t := t', v := t', w := false } } ∧
      t'.toNat = s.ppu.t.toNat / 256 % 128 * 256 + b.toNat)

/-- The step of `v` after a $2007 access (R200). -/
def Sys2Proof.Claims.nextV (p : Ppu) : Addr :=
  BitVec.ofNat 16 ((p.v.toNat + (if p.ctrl.getLsbD 2 then 32 else 1)) % 32768)

/-- R200-R202: $2007 reads are buffered below $3F00 and direct from there, writes go to the PPU address space,
and `v` advances by 1 or 32 in 15 bits after every access. -/
def Obligations.DataPort : Prop :=
  ∀ (s : State) (a : Addr) (b : Byte), 0x2000 ≤ a.toNat → a.toNat < 0x4000 → a.toNat % 8 = 7 →
    (s.ppu.v.toNat % 16384 < 0x3F00 → busRead a s = (s.ppu.dataBuffer,
      { s with ppu := { s.ppu with
        dataBuffer := ppuRead (BitVec.ofNat 16 (s.ppu.v.toNat % 16384)) s, v := nextV s.ppu } })) ∧
    (0x3F00 ≤ s.ppu.v.toNat % 16384 → busRead a s =
      (ppuRead (BitVec.ofNat 16 (s.ppu.v.toNat % 16384)) s,
        { s with ppu := { s.ppu with
          dataBuffer := (match s.launch.paletteReadBuffer with
            | .underlying => ppuRead (BitVec.ofNat 16 (s.ppu.v.toNat % 16384 - 0x1000)) s
            | .palette => ppuRead (BitVec.ofNat 16 (s.ppu.v.toNat % 16384)) s)
          v := nextV s.ppu } })) ∧
    (∃ t, ppuWrite (BitVec.ofNat 16 (s.ppu.v.toNat % 16384)) b s = t ∧
      busWrite a b s = { t with ppu := { t.ppu with v := nextV s.ppu } })

/-- R204, R205: a $4016 read is the InputDevice's next answer; a write latches bit 0, with a snapshot on its
falling edge. That a read past the supplied answers gives a free value and is counted is the model's choice (log
entry 5, DESIGN CHOICE); the spec says only that the InputDevice answers. -/
def Obligations.ControllerPort : Prop :=
  ∀ (s : State) (b : Byte),
    (∀ x rest, s.input.answers = x :: rest →
      busRead 0x4016#16 s = (x, { s with input := { s.input with answers := rest } })) ∧
    (s.input.answers = [] → ∃ x, busRead 0x4016#16 s =
      (x, { s with input := { s.input with past := s.input.past + 1 } })) ∧
    busWrite 0x4016#16 b s = { s with
      input := { s.input with calls := s.input.calls ++
        (if s.bus.ctrlStrobe = true ∧ b.getLsbD 0 = false then
          [.latch false, .snapshotButtons] else [.latch (b.getLsbD 0)]) }
      bus := { s.bus with ctrlStrobe := b.getLsbD 0 } }

/-! ### The PPU -/

/-- R208, R209: a clock moves the PPU one dot on in its frame of 89,342, but at the first dot of an odd frame
with rendering on, which it passes over; so with rendering off `n` clocks move it `n` dots on. The frame flag and
the odd flag change only where the frame wraps. A clock that passes a dot over does the next dot's work. -/
def Obligations.FrameTiming : Prop :=
  (∀ s : State, PpuInv s →
    ¬ skipsDot s.ppu → framePosition (ppuClock s).ppu = (framePosition s.ppu + 1) % 89342) ∧
  (∀ (n : Nat) (s : State), PpuInv s → s.ppu.rendering = false →
    framePosition (ppuClocks n s).ppu = (framePosition s.ppu + n) % 89342) ∧
  (∀ s : State, s.ppu.scanline = 261 → s.ppu.dot = 340 →
    (ppuClock s).ppu.scanline = 0 ∧ (ppuClock s).ppu.dot = 0 ∧ (ppuClock s).ppu.frameReady = true ∧
    (ppuClock s).ppu.oddFrame = !s.ppu.oddFrame) ∧
  (∀ s : State, ¬ (s.ppu.scanline = 261 ∧ s.ppu.dot = 340) →
    (ppuClock s).ppu.frameReady = s.ppu.frameReady ∧ (ppuClock s).ppu.oddFrame = s.ppu.oddFrame) ∧
  (∀ s : State, skipsDot s.ppu →
    (ppuClock s).ppu.scanline = 0 ∧ (ppuClock s).ppu.dot = 2 ∧
    (s.bus.oamDmaPpu = false → ppuClock s = ppuClock (s.mapPpu fun p => { p with dot := 1 })))

/-- R210, R211, R234: vblank rises at scanline 241, dot 1 and nowhere else, with the NMI request if enabled; at
scanline 261, dot 1 the status bits fall and the request stays. -/
def Obligations.VblankFlags : Prop :=
  ∀ s : State,
    (s.ppu.scanline = 241 → s.ppu.dot = 1 →
      (ppuClock s).ppu.vblank = true ∧ (ppuClock s).ppu.nmiOccurred = true ∧
      (ppuClock s).bus.nmiSignal = (s.bus.nmiSignal || s.ppu.ctrl.getLsbD 7)) ∧
    (s.ppu.scanline = 261 → s.ppu.dot = 1 →
      (ppuClock s).ppu.vblank = false ∧ (ppuClock s).ppu.nmiOccurred = false ∧
      (ppuClock s).ppu.sprite0Hit = false ∧ (ppuClock s).ppu.spriteOverflow = false) ∧
    (¬ (s.ppu.scanline = 241 ∧ s.ppu.dot = 1) →
      (ppuClock s).bus.nmiSignal = s.bus.nmiSignal ∧
      ((ppuClock s).ppu.vblank = true → s.ppu.vblank = true))

/-- R213-R216: what each scroll update does to the fields of `v`, and which one a clock of a rendered line makes
at which dot (no OAM-DMA waiting, whose reads could move `v` too). Dot 256 ends a tile, so there `IncX` comes
before `IncY` (R207). -/
def Obligations.ScrollUpdates : Prop :=
  (∀ s : State, s.bus.oamDmaPpu = false → s.ppu.rendering = true →
    s.ppu.scanline ≤ 239 ∨ s.ppu.scanline = 261 → (ppuClock s).ppu.v =
      if s.ppu.dot = 256 then incY (incX s.ppu.v)
      else if s.ppu.dot = 257 then copyH s.ppu.v s.ppu.t
      else if s.ppu.scanline = 261 ∧ 280 ≤ s.ppu.dot ∧ s.ppu.dot ≤ 304 then copyV s.ppu.v s.ppu.t
      else if ((1 ≤ s.ppu.dot ∧ s.ppu.dot ≤ 255) ∨ (321 ≤ s.ppu.dot ∧ s.ppu.dot ≤ 336)) ∧
        (s.ppu.dot - 1) % 8 = 7 then incX s.ppu.v
      else s.ppu.v) ∧
  ∀ v t : Addr,
    (coarseX (incX v) = coarseX v + 1#5 ∧
      nametableX (incX v) = (if coarseX v = 31#5 then ~~~ nametableX v else nametableX v) ∧
      coarseY (incX v) = coarseY v ∧ nametableY (incX v) = nametableY v ∧ fineY (incX v) = fineY v) ∧
    (fineY (incY v) = fineY v + 1#3 ∧
      coarseY (incY v) = (if fineY v = 7#3 then (if coarseY v = 29#5 then 0#5 else coarseY v + 1#5)
        else coarseY v) ∧
      nametableY (incY v) =
        (if fineY v = 7#3 ∧ coarseY v = 29#5 then ~~~ nametableY v else nametableY v) ∧
      coarseX (incY v) = coarseX v ∧ nametableX (incY v) = nametableX v) ∧
    (coarseX (copyH v t) = coarseX t ∧ nametableX (copyH v t) = nametableX t ∧
      coarseY (copyH v t) = coarseY v ∧ nametableY (copyH v t) = nametableY v ∧
      fineY (copyH v t) = fineY v) ∧
    (coarseY (copyV v t) = coarseY t ∧ nametableY (copyV v t) = nametableY t ∧
      fineY (copyV v t) = fineY t ∧ coarseX (copyV v t) = coarseX v ∧
      nametableX (copyV v t) = nametableX v)

/-- R207, R217-R219: the background fetches of dots 1-256 and 321-336 by their phase, with the addresses as sums
of the fields of `v`; and a clock makes them on the visible and pre-render lines alone. That phase 0 loads the
shifters only while rendering is R217 read with R231 (log entry 17, DEDUCED). -/
def Obligations.BackgroundFetches : Prop :=
  ∀ s : State,
    (¬ fetchDot s.ppu → backgroundFetch s = s) ∧
    (fetchDot s.ppu →
      ((s.ppu.dot - 1) % 8 = 0 → backgroundFetch s = s.mapPpu fun p =>
        { (if p.rendering then p.loadShifters else p) with
          bgNextTileId := ppuRead (BitVec.ofNat 16 (0x2000 + s.ppu.v.toNat % 4096)) s }) ∧
      ((s.ppu.dot - 1) % 8 = 2 → ∃ x : Byte,
        ppuRead (BitVec.ofNat 16 (0x23C0 + 1024 * (s.ppu.v.toNat / 1024 % 4) +
          8 * ((coarseY s.ppu.v).toNat / 4) + (coarseX s.ppu.v).toNat / 4)) s = x ∧
        backgroundFetch s = s.mapPpu fun p => { p with bgNextAttr := (BitVec.ofNat 2
          (x.toNat / 2 ^ (4 * ((coarseY s.ppu.v).toNat / 2 % 2) + 2 * ((coarseX s.ppu.v).toNat / 2 % 2))
            % 4)) }) ∧
      ((s.ppu.dot - 1) % 8 = 4 → backgroundFetch s = s.mapPpu fun p => { p with
        bgNextLo := ppuRead (BitVec.ofNat 16 ((if s.ppu.ctrl.getLsbD 4 then 4096 else 0) +
          16 * s.ppu.bgNextTileId.toNat + (fineY s.ppu.v).toNat)) s }) ∧
      ((s.ppu.dot - 1) % 8 = 6 → backgroundFetch s = s.mapPpu fun p => { p with
        bgNextHi := ppuRead (BitVec.ofNat 16 ((if s.ppu.ctrl.getLsbD 4 then 4096 else 0) +
          16 * s.ppu.bgNextTileId.toNat + (fineY s.ppu.v).toNat + 8)) s }) ∧
      ((s.ppu.dot - 1) % 8 = 7 → backgroundFetch s =
        if s.ppu.rendering then s.mapPpu fun p => { p with v := incX p.v } else s) ∧
      ((s.ppu.dot - 1) % 8 ∈ [1, 3, 5] → backgroundFetch s = s)) ∧
    (ownDot s → latches (ppuClock s).ppu =
      if renderedLine s.ppu then latches (backgroundFetch s).ppu else latches s.ppu)

/-- `n` background shifts on one dot. -/
def Sys2Proof.Claims.shiftTimes (n : Nat) (p : Ppu) : Ppu :=
  match n with
  | 0 => p
  | n + 1 => shiftTimes n p.backgroundShift

/-- R207, R220, R221: after a load and eight shifts the tile's latches are the high bytes of the four shifters, the
two attribute bits spread over a byte each. A shift moves the four shifters left by one on dots 1-256 and 321-336
with `show_bg`, and does nothing on any other dot or without it; and a clock of a visible or the pre-render line
shifts after its fetch, where a clock of any other line leaves the shifters alone. -/
def Obligations.ShiftersCarryTheTile : Prop :=
  (∀ p : Ppu, fetchDot p → p.showBg = true →
    hi (shiftTimes 8 p.loadShifters).shPatLo = p.bgNextLo ∧
    hi (shiftTimes 8 p.loadShifters).shPatHi = p.bgNextHi ∧
    hi (shiftTimes 8 p.loadShifters).shAttrLo = (if p.bgNextAttr.getLsbD 0 then 0xFF#8 else 0x00#8) ∧
    hi (shiftTimes 8 p.loadShifters).shAttrHi = (if p.bgNextAttr.getLsbD 1 then 0xFF#8 else 0x00#8) ∧
    hi p.loadShifters.shPatLo = hi p.shPatLo ∧ hi p.loadShifters.shPatHi = hi p.shPatHi ∧
    p.backgroundShift = { p with
      shPatLo := p.shPatLo <<< 1, shPatHi := p.shPatHi <<< 1
      shAttrLo := p.shAttrLo <<< 1, shAttrHi := p.shAttrHi <<< 1 }) ∧
  (∀ p : Ppu, ¬ (fetchDot p ∧ p.mask.getLsbD 3 = true) → p.backgroundShift = p) ∧
  (∀ s : State, ownDot s → shifters (ppuClock s).ppu =
    if renderedLine s.ppu then shifters (backgroundFetch s).ppu.backgroundShift else shifters s.ppu)

/-- The OAM entries in range of the present line, in order (R222). -/
def Sys2Proof.Claims.spritesInRange (p : Ppu) : List Nat :=
  (List.range 64).filter fun n =>
    decide (0 ≤ (p.scanline : Int) - (p.oam.get (4 * n)).toNat) &&
      decide ((p.scanline : Int) - (p.oam.get (4 * n)).toNat < if p.ctrl.getLsbD 5 then 16 else 8)

/-- R207, R222: evaluation stages the first eight sprites in range, in OAM order, notes whether sprite 0 is one, and
sets overflow when there is a ninth. A clock evaluates at dot 256 of the visible lines, while rendering; the
transfer of dot 257 empties the staged buffer (R223); no other clock changes it. -/
def Obligations.SpriteEvaluation : Prop :=
  (∀ s : State, ownDot s →
    staged (ppuClock s).ppu =
      (if s.ppu.rendering = true ∧ s.ppu.scanline ≤ 239 ∧ s.ppu.dot = 256 then staged s.ppu.spriteEvaluate
      else if s.ppu.rendering = true ∧ renderedLine s.ppu ∧ s.ppu.dot = 257 then
        (s.ppu.nextSprites, 0, false)
      else staged s.ppu) ∧
    (ppuClock s).ppu.spriteOverflow =
      if s.ppu.rendering = true ∧ s.ppu.scanline ≤ 239 ∧ s.ppu.dot = 256 then
        s.ppu.spriteEvaluate.spriteOverflow
      else if s.ppu.scanline = 261 ∧ s.ppu.dot = 1 then false
      else s.ppu.spriteOverflow) ∧
  ∀ p : Ppu, p.nextSprites.length = 8 →
    p.spriteEvaluate.nextCount = min 8 (spritesInRange p).length ∧
    p.spriteEvaluate.nextSprite0 = decide (0 ∈ spritesInRange p) ∧
    p.spriteEvaluate.spriteOverflow = (p.spriteOverflow || decide (8 < (spritesInRange p).length)) ∧
    ∀ k n, k < 8 → (spritesInRange p)[k]? = some n →
      p.spriteEvaluate.nextSprites[k]? = some ⟨p.oam.get (4 * n), p.oam.get (4 * n + 1),
        p.oam.get (4 * n + 2), p.oam.get (4 * n + 3)⟩

/-- The address of a sprite's pattern row when the line is one of its own (R224): `row` from its top, 8x8 or
8x16, flipped or not. -/
def Sys2Proof.Claims.spriteRowAddr (p : Ppu) (sp : Sprite) (row : Nat) : Nat :=
  if p.ctrl.getLsbD 5 then
    let r := if sp.attr.getLsbD 7 then 15 - row else row
    4096 * (sp.tile.toNat % 2) + 16 * (sp.tile.toNat / 2 * 2 + r / 8) + r % 8
  else
    let r := if sp.attr.getLsbD 7 then 7 - row else row
    (if p.ctrl.getLsbD 3 then 4096 else 0) + 16 * sp.tile.toNat + r

/-- R207, R223-R225: the transfer, the fetch and the shift of the sprite slots, slot by slot; and the dots on which
a clock makes each: the shift on dots 1-256 of the visible lines, and on those and the pre-render line, while
rendering, the transfer at dot 257 and the fetch of slot `i` at dot 257 + 8i. -/
def Obligations.SpriteSlots : Prop :=
  (∀ s : State, ownDot s → active (ppuClock s).ppu =
    if pixelDot s.ppu then active s.ppu.spriteShift
    else if s.ppu.rendering = true ∧ renderedLine s.ppu ∧ s.ppu.dot = 257 then
      active (spriteFetch 0 (s.mapPpu Ppu.spriteTransfer)).ppu
    else if s.ppu.rendering = true ∧ renderedLine s.ppu ∧
      s.ppu.dot ∈ [265, 273, 281, 289, 297, 305, 313] then
      active (spriteFetch ((s.ppu.dot - 257) / 8) s).ppu
    else active s.ppu) ∧
  (∀ (p : Ppu) (i : Nat) (sp : Sprite) (slot : SpriteSlot),
    p.nextSprites[i]? = some sp → p.curSprites[i]? = some slot →
    p.spriteTransfer.curSprites[i]? = some { slot with
      sprite := sp, x := if i < p.nextCount then sp.x else slot.x }) ∧
  (∀ p : Ppu, p.spriteTransfer.curCount = p.nextCount ∧ p.spriteTransfer.curSprite0 = p.nextSprite0 ∧
    p.spriteTransfer.nextCount = 0 ∧ p.spriteTransfer.nextSprite0 = false) ∧
  (∀ (s : State) (i : Nat) (slot : SpriteSlot), s.ppu.curSprites[i]? = some slot →
    (s.ppu.curCount ≤ i →
      (spriteFetch i s).ppu.curSprites[i]? = some { slot with lo := 0x00#8, hi := 0x00#8 }) ∧
    (i < s.ppu.curCount → slot.sprite.y.toNat ≤ s.ppu.scanline →
      s.ppu.scanline - slot.sprite.y.toNat < (if s.ppu.ctrl.getLsbD 5 then 16 else 8) →
      ∀ a : Addr,
        a = BitVec.ofNat 16 (spriteRowAddr s.ppu slot.sprite (s.ppu.scanline - slot.sprite.y.toNat)) →
        (spriteFetch i s).ppu.curSprites[i]? = some { slot with
          lo := (if slot.sprite.attr.getLsbD 6 then (ppuRead a s).reverse else ppuRead a s)
          hi := (if slot.sprite.attr.getLsbD 6 then (ppuRead (a + 8#16) s).reverse
            else ppuRead (a + 8#16) s) })) ∧
  (∀ (p : Ppu) (i : Nat) (slot : SpriteSlot), p.curSprites[i]? = some slot →
    (p.mask.getLsbD 4 = false → p.spriteShift = p) ∧
    (p.mask.getLsbD 4 = true → p.curCount ≤ i → p.spriteShift.curSprites[i]? = some slot) ∧
    (p.mask.getLsbD 4 = true → i < p.curCount → p.spriteShift.curSprites[i]? =
      some (if 0 < slot.x.toNat then { slot with x := slot.x - 1#8 }
        else { slot with lo := slot.lo <<< 1, hi := slot.hi <<< 1 })))

/-- R226, R227: the background's two bits are those the mask `0x8000 >> fine_x` selects, and the sprite pixel
is the first active slot's that is opaque; each is transparent where its column is clipped or its layer off. -/
def Obligations.PixelSources : Prop :=
  ∀ (p : Ppu) (clip : Bool) (m : Addr), m = 0x8000#16 >>> p.fineX.toNat →
    (p.mask.getLsbD 3 = true → (8 ≤ p.dot - 1 ∨ p.mask.getLsbD 1 = true ∨ clip = false) →
      p.backgroundPixel clip =
        (BitVec.ofNat 2 ((if p.shPatHi &&& m = 0#16 then 0 else 2) + (if p.shPatLo &&& m = 0#16 then 0 else 1)),
          BitVec.ofNat 2
            ((if p.shAttrHi &&& m = 0#16 then 0 else 2) + (if p.shAttrLo &&& m = 0#16 then 0 else 1)))) ∧
    (¬ (p.mask.getLsbD 3 = true ∧ (8 ≤ p.dot - 1 ∨ p.mask.getLsbD 1 = true ∨ clip = false)) →
      p.backgroundPixel clip = (0#2, 0#2)) ∧
    (¬ (p.mask.getLsbD 4 = true ∧ (8 ≤ p.dot - 1 ∨ p.mask.getLsbD 2 = true ∨ clip = false)) →
      p.spritePixel clip = none) ∧
    (p.mask.getLsbD 4 = true → (8 ≤ p.dot - 1 ∨ p.mask.getLsbD 2 = true ∨ clip = false) →
      p.spritePixel clip = none → ∀ j < p.curCount, ∀ other, p.curSprites[j]? = some other →
        other.x ≠ 0#8 ∨ (other.hi.getLsbD 7 = false ∧ other.lo.getLsbD 7 = false)) ∧
    (∀ f, p.spritePixel clip = some f → ∃ slot, p.curSprites[f.slot]? = some slot ∧
      f.slot < p.curCount ∧ slot.x = 0#8 ∧ f.px ≠ 0#2 ∧
      f.px = BitVec.ofNat 2 ((if slot.hi.getLsbD 7 then 2 else 0) + (if slot.lo.getLsbD 7 then 1 else 0)) ∧
      f.pal = slot.sprite.attr.setWidth 2 ∧ f.behind = slot.sprite.attr.getLsbD 5 ∧
      ∀ j < f.slot, ∀ other, p.curSprites[j]? = some other →
        other.x ≠ 0#8 ∨ (other.hi.getLsbD 7 = false ∧ other.lo.getLsbD 7 = false))

/-- R228, R229: the mixing table, and sprite-0 hit. -/
def Obligations.PixelMixing : Prop :=
  ∀ (p : Ppu) (bg pal : BitVec 2) (f : SpritePixel),
    mixPixel (0#2, pal) none = (0#2, 0#3) ∧
    mixPixel (0#2, pal) (some f) = (f.px, BitVec.ofNat 3 (4 + f.pal.toNat)) ∧
    (bg ≠ 0#2 → mixPixel (bg, pal) none = (bg, BitVec.ofNat 3 pal.toNat)) ∧
    (bg ≠ 0#2 → mixPixel (bg, pal) (some f) =
      if f.behind then (bg, BitVec.ofNat 3 pal.toNat) else (f.px, BitVec.ofNat 3 (4 + f.pal.toNat))) ∧
    p.hitsSprite0 (bg, pal) none = false ∧
    (p.hitsSprite0 (bg, pal) (some f) = true ↔
      bg ≠ 0#2 ∧ f.slot = 0 ∧ p.curSprite0 = true ∧ p.dot - 1 ≠ 255)

/-- R207, R230, R43: a clock outputs a pixel on dots 1-256 of lines 0-239 and on no other; a pixel is four bytes of
the frame buffer at `(scanline * 256 + dot - 1) * 4`: the colour of the mixed pixel and 0xFF; no other byte
changes. So from line 241, dot 0 the buffer keeps its complete frame for 21 * 341 dots, at whose end `frame_ready` is
set and line 0, dot 0 is to come, one dot before the next pixel. That this is the window of R262, whose number is
counted there from line 241 and not from `frame_ready`, is the model's choice (log entry 22, DESIGN CHOICE). (The
colours are open: log entry 4.) -/
def Obligations.PixelOutput : Prop :=
  (∀ (n : Nat) (s : State), s.ppu.scanline = 241 → s.ppu.dot = 0 → n ≤ 21 * 341 →
    (ppuClocks n s).ppu.frame = s.ppu.frame ∧ (ppuClocks n s).ppu.holdsFrame = true ∧
    (n = 21 * 341 → displayFrame (ppuClocks n s) = some s.ppu.frame ∧
      (ppuClocks n s).ppu.scanline = 0 ∧ (ppuClocks n s).ppu.dot = 0)) ∧
  (∀ s : State, ownDot s → pixelDot s.ppu →
    (ppuClock s).ppu.frame = (outputPixel s).ppu.frame ∧
    (ppuClock s).ppu.sprite0Hit = (outputPixel s).ppu.sprite0Hit) ∧
  (∀ s : State, ownDot s → ¬ pixelDot s.ppu →
    (ppuClock s).ppu.frame = s.ppu.frame ∧
    (ppuClock s).ppu.sprite0Hit =
      if s.ppu.scanline = 261 ∧ s.ppu.dot = 1 then false else s.ppu.sprite0Hit) ∧
  ∀ (s : State) (bg : BitVec 2 × BitVec 2) (fg : Option SpritePixel) (lut c : Rgb) (o : Nat),
    MemoryInv s → pixelDot s.ppu →
    bg = s.ppu.backgroundPixel s.launch.leftClip → fg = s.ppu.spritePixel s.launch.leftClip →
    lut = Config.paletteRgb ((ppuRead (0x3F00#16 + BitVec.ofNat 16
      ((mixPixel bg fg).2.toNat * 4 + (mixPixel bg fg).1.toNat)) s).setWidth 6) →
    c = (if s.ppu.mask.extractLsb' 5 3 = 0#3 then lut
      else Config.emphasisRgb (s.ppu.mask.extractLsb' 5 3) lut) →
    o = (s.ppu.scanline * 256 + (s.ppu.dot - 1)) * 4 →
    (outputPixel s).ppu.frameByte o = c.r ∧ (outputPixel s).ppu.frameByte (o + 1) = c.g ∧
    (outputPixel s).ppu.frameByte (o + 2) = c.b ∧ (outputPixel s).ppu.frameByte (o + 3) = 0xFF#8 ∧
    (outputPixel s).ppu.sprite0Hit = (s.ppu.sprite0Hit || s.ppu.hitsSprite0 bg fg) ∧
    ∀ x, x < o ∨ o + 4 ≤ x → (outputPixel s).ppu.frameByte x = s.ppu.frameByte x

/-- R231, R244: with rendering off a PPU clock keeps `v`, `t`, fine X, the shifters and the sprite buffers, as long
as no OAM-DMA is waiting; and no PPU clock ever writes a CPU register, RAM or the cartridge. (R217 names no such
condition on the shifter load: log entry 17.) -/
def Obligations.RenderingOff : Prop :=
  (∀ s : State, s.ppu.rendering = false → s.bus.oamDmaPpu = false →
    (ppuClock s).ppu.v = s.ppu.v ∧ (ppuClock s).ppu.t = s.ppu.t ∧ (ppuClock s).ppu.fineX = s.ppu.fineX ∧
    shifters (ppuClock s).ppu = shifters s.ppu ∧ staged (ppuClock s).ppu = staged s.ppu ∧
    active (ppuClock s).ppu = active s.ppu ∧
    (ppuClock s).ppu.oam = s.ppu.oam) ∧
  (∀ s : State, (ppuClock s).cpu = s.cpu ∧ (ppuClock s).bus.ram = s.bus.ram ∧
    (ppuClock s).cart = s.cart ∧ (ppuClock s).launch = s.launch ∧
    (ppuClock s).ppu.nt = s.ppu.nt ∧ (ppuClock s).ppu.pal = s.ppu.pal)

/-! ### Reset -/

/-- R253: a reset writes every piece of core state but the four memories, reads PC from $FFFC, and pushes
nothing. That it keeps the level on irq_line, the cartridge, the InputDevice and the launch is the model's reading
(log entry 12, DEDUCED). -/
def Obligations.ResetWrites : Prop :=
  (∀ s : State, (resetCore s).cpu =
      { a := 0x00#8, x := 0x00#8, y := 0x00#8, pc := cartWord s.cart 0xFFFC#16, sp := 0xFD#8,
        stat := 0x24#8, cycl := 0, next := 7, killCount := 0, jammed := false } ∧
    (resetCore s).bus =
      { ram := s.bus.ram, nmiSignal := false, oamDmaCpu := false, oamDmaPpu := false,
        oamDmaAddr := 0x0000#16, irqLine := s.bus.irqLine, ctrlStrobe := false } ∧
    (resetCore s).ppu =
      { ctrl := 0x00#8, mask := 0x00#8, spriteOverflow := false, sprite0Hit := false, vblank := false,
        nmiOccurred := false, oamAddr := 0x00#8, v := 0x0000#16, t := 0x0000#16, fineX := 0#3, w := false,
        dataBuffer := 0x00#8, oam := s.ppu.oam, nt := s.ppu.nt, pal := s.ppu.pal, scanline := 0, dot := 0,
        oddFrame := false, frameReady := false, bgNextTileId := 0x00#8, bgNextAttr := 0#2,
        bgNextLo := 0x00#8, bgNextHi := 0x00#8, shPatLo := 0x0000#16, shPatHi := 0x0000#16,
        shAttrLo := 0x0000#16, shAttrHi := 0x0000#16,
        nextSprites := List.replicate 8 ⟨0x00#8, 0x00#8, 0x00#8, 0x00#8⟩, nextCount := 0,
        nextSprite0 := false,
        curSprites := List.replicate 8 ⟨⟨0x00#8, 0x00#8, 0x00#8, 0x00#8⟩, 0x00#8, 0x00#8, 0x00#8⟩,
        curCount := 0, curSprite0 := false, frame := List.replicate 240 [] } ∧
    (resetCore s).cart = s.cart ∧ (resetCore s).input = s.input ∧ (resetCore s).launch = s.launch) ∧
  (∀ (l : Launch) (c : Cartridge) (d : InputDevice) (init : InitContents),
    (powerOn l c d init).bus.ram = Memory.ofCells 0xFF#8 init.ram ∧
    (powerOn l c d init).ppu.oam = Memory.ofCells 0xFF#8 init.oam ∧
    (powerOn l c d init).ppu.nt = Memory.ofCells 0xFF#8 init.nt ∧
    (powerOn l c d init).ppu.pal = Memory.ofCells 0x3F#8 init.pal ∧
    (powerOn l c d init).cpu.pc = cartWord c 0xFFFC#16) ∧
  (∀ (keep : Byte) (cells : List Host.Cell) (x : Host.Cell), (cells.map Prod.fst).Nodup → x ∈ cells →
    (Memory.ofCells keep cells).get x.1 = x.2 &&& keep)

/-- R255: after any power-on the CPU is idle for seven ticks while the PPU runs 21 dots, and the instruction at
the reset vector is fetched by the eighth. -/
def Obligations.FirstFetchAfterReset : Prop :=
  ∀ (l : Launch) (c : Cartridge) (d : InputDevice) (init : InitContents) (k : Nat), k ≤ 7 →
    ∃ t, Host.Core.run core k (powerOn l c d init) = .next t ∧
      t.cpu = { (powerOn l c d init).cpu with cycl := k } ∧ t.ppu.scanline = 0 ∧ t.ppu.dot = 3 * k ∧
      t.bus = (powerOn l c d init).bus ∧ (due t ↔ k = 7)
end

