-- ==== Sys2Proof/Laws/State.lean ====
section
/-! SUPPORT. What each update of the state leaves in each field: one lemma a field and update, so that no
proof unfolds an update. The flags of STAT after each setter follow from `getElem_putBit`. -/

namespace Sys2Proof.Machine

/-! ### The parts of the state -/

@[simp] theorem State.mapCpu_cpu (f : Cpu → Cpu) (s : State) : (s.mapCpu f).cpu = f s.cpu := rfl
@[simp] theorem State.mapCpu_bus (f : Cpu → Cpu) (s : State) : (s.mapCpu f).bus = s.bus := rfl
@[simp] theorem State.mapCpu_ppu (f : Cpu → Cpu) (s : State) : (s.mapCpu f).ppu = s.ppu := rfl
@[simp] theorem State.mapCpu_cart (f : Cpu → Cpu) (s : State) : (s.mapCpu f).cart = s.cart := rfl
@[simp] theorem State.mapCpu_input (f : Cpu → Cpu) (s : State) : (s.mapCpu f).input = s.input := rfl
@[simp] theorem State.mapCpu_launch (f : Cpu → Cpu) (s : State) : (s.mapCpu f).launch = s.launch := rfl
@[simp] theorem State.mapPpu_ppu (f : Ppu → Ppu) (s : State) : (s.mapPpu f).ppu = f s.ppu := rfl
@[simp] theorem State.mapPpu_cpu (f : Ppu → Ppu) (s : State) : (s.mapPpu f).cpu = s.cpu := rfl
@[simp] theorem State.mapPpu_bus (f : Ppu → Ppu) (s : State) : (s.mapPpu f).bus = s.bus := rfl
@[simp] theorem State.mapPpu_cart (f : Ppu → Ppu) (s : State) : (s.mapPpu f).cart = s.cart := rfl
@[simp] theorem State.mapPpu_input (f : Ppu → Ppu) (s : State) : (s.mapPpu f).input = s.input := rfl
@[simp] theorem State.mapPpu_launch (f : Ppu → Ppu) (s : State) : (s.mapPpu f).launch = s.launch := rfl

@[simp] theorem State.setPc_cpu_pc (a : Addr) (s : State) : (s.setPc a).cpu.pc = a := rfl
@[simp] theorem State.setPc_cpu_a (a : Addr) (s : State) : (s.setPc a).cpu.a = s.cpu.a := rfl
@[simp] theorem State.setPc_cpu_x (a : Addr) (s : State) : (s.setPc a).cpu.x = s.cpu.x := rfl
@[simp] theorem State.setPc_cpu_y (a : Addr) (s : State) : (s.setPc a).cpu.y = s.cpu.y := rfl
@[simp] theorem State.setPc_cpu_sp (a : Addr) (s : State) : (s.setPc a).cpu.sp = s.cpu.sp := rfl
@[simp] theorem State.setPc_cpu_stat (a : Addr) (s : State) : (s.setPc a).cpu.stat = s.cpu.stat := rfl
@[simp] theorem State.setPc_cpu_cycl (a : Addr) (s : State) : (s.setPc a).cpu.cycl = s.cpu.cycl := rfl
@[simp] theorem State.setPc_cpu_next (a : Addr) (s : State) : (s.setPc a).cpu.next = s.cpu.next := rfl
@[simp] theorem State.setPc_cpu_killCount (a : Addr) (s : State) : (s.setPc a).cpu.killCount = s.cpu.killCount := rfl
@[simp] theorem State.setPc_cpu_jammed (a : Addr) (s : State) : (s.setPc a).cpu.jammed = s.cpu.jammed := rfl
@[simp] theorem State.setPc_bus (a : Addr) (s : State) : (s.setPc a).bus = s.bus := rfl
@[simp] theorem State.setPc_ppu (a : Addr) (s : State) : (s.setPc a).ppu = s.ppu := rfl
@[simp] theorem State.setPc_cart (a : Addr) (s : State) : (s.setPc a).cart = s.cart := rfl
@[simp] theorem State.setPc_input (a : Addr) (s : State) : (s.setPc a).input = s.input := rfl
@[simp] theorem State.setPc_launch (a : Addr) (s : State) : (s.setPc a).launch = s.launch := rfl

@[simp] theorem State.busyFor_cpu_next (n : Nat) (s : State) : (s.busyFor n).cpu.next = s.cpu.cycl + n := rfl
@[simp] theorem State.busyFor_cpu_a (n : Nat) (s : State) : (s.busyFor n).cpu.a = s.cpu.a := rfl
@[simp] theorem State.busyFor_cpu_x (n : Nat) (s : State) : (s.busyFor n).cpu.x = s.cpu.x := rfl
@[simp] theorem State.busyFor_cpu_y (n : Nat) (s : State) : (s.busyFor n).cpu.y = s.cpu.y := rfl
@[simp] theorem State.busyFor_cpu_pc (n : Nat) (s : State) : (s.busyFor n).cpu.pc = s.cpu.pc := rfl
@[simp] theorem State.busyFor_cpu_sp (n : Nat) (s : State) : (s.busyFor n).cpu.sp = s.cpu.sp := rfl
@[simp] theorem State.busyFor_cpu_stat (n : Nat) (s : State) : (s.busyFor n).cpu.stat = s.cpu.stat := rfl
@[simp] theorem State.busyFor_cpu_cycl (n : Nat) (s : State) : (s.busyFor n).cpu.cycl = s.cpu.cycl := rfl
@[simp] theorem State.busyFor_cpu_killCount (n : Nat) (s : State) : (s.busyFor n).cpu.killCount = s.cpu.killCount := rfl
@[simp] theorem State.busyFor_cpu_jammed (n : Nat) (s : State) : (s.busyFor n).cpu.jammed = s.cpu.jammed := rfl
@[simp] theorem State.busyFor_bus (n : Nat) (s : State) : (s.busyFor n).bus = s.bus := rfl
@[simp] theorem State.busyFor_ppu (n : Nat) (s : State) : (s.busyFor n).ppu = s.ppu := rfl
@[simp] theorem State.busyFor_cart (n : Nat) (s : State) : (s.busyFor n).cart = s.cart := rfl
@[simp] theorem State.busyFor_input (n : Nat) (s : State) : (s.busyFor n).input = s.input := rfl
@[simp] theorem State.busyFor_launch (n : Nat) (s : State) : (s.busyFor n).launch = s.launch := rfl

/-! ### The registers -/

@[simp] theorem Cpu.setC_a (b : Bool) (r : Cpu) : (r.setC b).a = r.a := rfl
@[simp] theorem Cpu.setC_x (b : Bool) (r : Cpu) : (r.setC b).x = r.x := rfl
@[simp] theorem Cpu.setC_y (b : Bool) (r : Cpu) : (r.setC b).y = r.y := rfl
@[simp] theorem Cpu.setC_pc (b : Bool) (r : Cpu) : (r.setC b).pc = r.pc := rfl
@[simp] theorem Cpu.setC_sp (b : Bool) (r : Cpu) : (r.setC b).sp = r.sp := rfl
@[simp] theorem Cpu.setC_cycl (b : Bool) (r : Cpu) : (r.setC b).cycl = r.cycl := rfl
@[simp] theorem Cpu.setC_next (b : Bool) (r : Cpu) : (r.setC b).next = r.next := rfl
@[simp] theorem Cpu.setC_killCount (b : Bool) (r : Cpu) : (r.setC b).killCount = r.killCount := rfl
@[simp] theorem Cpu.setC_jammed (b : Bool) (r : Cpu) : (r.setC b).jammed = r.jammed := rfl

@[simp] theorem Cpu.setZ_a (b : Bool) (r : Cpu) : (r.setZ b).a = r.a := rfl
@[simp] theorem Cpu.setZ_x (b : Bool) (r : Cpu) : (r.setZ b).x = r.x := rfl
@[simp] theorem Cpu.setZ_y (b : Bool) (r : Cpu) : (r.setZ b).y = r.y := rfl
@[simp] theorem Cpu.setZ_pc (b : Bool) (r : Cpu) : (r.setZ b).pc = r.pc := rfl
@[simp] theorem Cpu.setZ_sp (b : Bool) (r : Cpu) : (r.setZ b).sp = r.sp := rfl
@[simp] theorem Cpu.setZ_cycl (b : Bool) (r : Cpu) : (r.setZ b).cycl = r.cycl := rfl
@[simp] theorem Cpu.setZ_next (b : Bool) (r : Cpu) : (r.setZ b).next = r.next := rfl
@[simp] theorem Cpu.setZ_killCount (b : Bool) (r : Cpu) : (r.setZ b).killCount = r.killCount := rfl
@[simp] theorem Cpu.setZ_jammed (b : Bool) (r : Cpu) : (r.setZ b).jammed = r.jammed := rfl

@[simp] theorem Cpu.setI_a (b : Bool) (r : Cpu) : (r.setI b).a = r.a := rfl
@[simp] theorem Cpu.setI_x (b : Bool) (r : Cpu) : (r.setI b).x = r.x := rfl
@[simp] theorem Cpu.setI_y (b : Bool) (r : Cpu) : (r.setI b).y = r.y := rfl
@[simp] theorem Cpu.setI_pc (b : Bool) (r : Cpu) : (r.setI b).pc = r.pc := rfl
@[simp] theorem Cpu.setI_sp (b : Bool) (r : Cpu) : (r.setI b).sp = r.sp := rfl
@[simp] theorem Cpu.setI_cycl (b : Bool) (r : Cpu) : (r.setI b).cycl = r.cycl := rfl
@[simp] theorem Cpu.setI_next (b : Bool) (r : Cpu) : (r.setI b).next = r.next := rfl
@[simp] theorem Cpu.setI_killCount (b : Bool) (r : Cpu) : (r.setI b).killCount = r.killCount := rfl
@[simp] theorem Cpu.setI_jammed (b : Bool) (r : Cpu) : (r.setI b).jammed = r.jammed := rfl

@[simp] theorem Cpu.setD_a (b : Bool) (r : Cpu) : (r.setD b).a = r.a := rfl
@[simp] theorem Cpu.setD_x (b : Bool) (r : Cpu) : (r.setD b).x = r.x := rfl
@[simp] theorem Cpu.setD_y (b : Bool) (r : Cpu) : (r.setD b).y = r.y := rfl
@[simp] theorem Cpu.setD_pc (b : Bool) (r : Cpu) : (r.setD b).pc = r.pc := rfl
@[simp] theorem Cpu.setD_sp (b : Bool) (r : Cpu) : (r.setD b).sp = r.sp := rfl
@[simp] theorem Cpu.setD_cycl (b : Bool) (r : Cpu) : (r.setD b).cycl = r.cycl := rfl
@[simp] theorem Cpu.setD_next (b : Bool) (r : Cpu) : (r.setD b).next = r.next := rfl
@[simp] theorem Cpu.setD_killCount (b : Bool) (r : Cpu) : (r.setD b).killCount = r.killCount := rfl
@[simp] theorem Cpu.setD_jammed (b : Bool) (r : Cpu) : (r.setD b).jammed = r.jammed := rfl

@[simp] theorem Cpu.setV_a (b : Bool) (r : Cpu) : (r.setV b).a = r.a := rfl
@[simp] theorem Cpu.setV_x (b : Bool) (r : Cpu) : (r.setV b).x = r.x := rfl
@[simp] theorem Cpu.setV_y (b : Bool) (r : Cpu) : (r.setV b).y = r.y := rfl
@[simp] theorem Cpu.setV_pc (b : Bool) (r : Cpu) : (r.setV b).pc = r.pc := rfl
@[simp] theorem Cpu.setV_sp (b : Bool) (r : Cpu) : (r.setV b).sp = r.sp := rfl
@[simp] theorem Cpu.setV_cycl (b : Bool) (r : Cpu) : (r.setV b).cycl = r.cycl := rfl
@[simp] theorem Cpu.setV_next (b : Bool) (r : Cpu) : (r.setV b).next = r.next := rfl
@[simp] theorem Cpu.setV_killCount (b : Bool) (r : Cpu) : (r.setV b).killCount = r.killCount := rfl
@[simp] theorem Cpu.setV_jammed (b : Bool) (r : Cpu) : (r.setV b).jammed = r.jammed := rfl

@[simp] theorem Cpu.setN_a (b : Bool) (r : Cpu) : (r.setN b).a = r.a := rfl
@[simp] theorem Cpu.setN_x (b : Bool) (r : Cpu) : (r.setN b).x = r.x := rfl
@[simp] theorem Cpu.setN_y (b : Bool) (r : Cpu) : (r.setN b).y = r.y := rfl
@[simp] theorem Cpu.setN_pc (b : Bool) (r : Cpu) : (r.setN b).pc = r.pc := rfl
@[simp] theorem Cpu.setN_sp (b : Bool) (r : Cpu) : (r.setN b).sp = r.sp := rfl
@[simp] theorem Cpu.setN_cycl (b : Bool) (r : Cpu) : (r.setN b).cycl = r.cycl := rfl
@[simp] theorem Cpu.setN_next (b : Bool) (r : Cpu) : (r.setN b).next = r.next := rfl
@[simp] theorem Cpu.setN_killCount (b : Bool) (r : Cpu) : (r.setN b).killCount = r.killCount := rfl
@[simp] theorem Cpu.setN_jammed (b : Bool) (r : Cpu) : (r.setN b).jammed = r.jammed := rfl

@[simp] theorem Cpu.setZN_a (v : Byte) (r : Cpu) : (r.setZN v).a = r.a := rfl
@[simp] theorem Cpu.setZN_x (v : Byte) (r : Cpu) : (r.setZN v).x = r.x := rfl
@[simp] theorem Cpu.setZN_y (v : Byte) (r : Cpu) : (r.setZN v).y = r.y := rfl
@[simp] theorem Cpu.setZN_pc (v : Byte) (r : Cpu) : (r.setZN v).pc = r.pc := rfl
@[simp] theorem Cpu.setZN_sp (v : Byte) (r : Cpu) : (r.setZN v).sp = r.sp := rfl
@[simp] theorem Cpu.setZN_cycl (v : Byte) (r : Cpu) : (r.setZN v).cycl = r.cycl := rfl
@[simp] theorem Cpu.setZN_next (v : Byte) (r : Cpu) : (r.setZN v).next = r.next := rfl
@[simp] theorem Cpu.setZN_killCount (v : Byte) (r : Cpu) : (r.setZN v).killCount = r.killCount := rfl
@[simp] theorem Cpu.setZN_jammed (v : Byte) (r : Cpu) : (r.setZN v).jammed = r.jammed := rfl

@[simp] theorem Cpu.loadA_a (v : Byte) (r : Cpu) : (r.loadA v).a = v := rfl
@[simp] theorem Cpu.loadA_x (v : Byte) (r : Cpu) : (r.loadA v).x = r.x := rfl
@[simp] theorem Cpu.loadA_y (v : Byte) (r : Cpu) : (r.loadA v).y = r.y := rfl
@[simp] theorem Cpu.loadA_pc (v : Byte) (r : Cpu) : (r.loadA v).pc = r.pc := rfl
@[simp] theorem Cpu.loadA_sp (v : Byte) (r : Cpu) : (r.loadA v).sp = r.sp := rfl
@[simp] theorem Cpu.loadA_cycl (v : Byte) (r : Cpu) : (r.loadA v).cycl = r.cycl := rfl
@[simp] theorem Cpu.loadA_next (v : Byte) (r : Cpu) : (r.loadA v).next = r.next := rfl
@[simp] theorem Cpu.loadA_killCount (v : Byte) (r : Cpu) : (r.loadA v).killCount = r.killCount := rfl
@[simp] theorem Cpu.loadA_jammed (v : Byte) (r : Cpu) : (r.loadA v).jammed = r.jammed := rfl

@[simp] theorem Cpu.loadX_a (v : Byte) (r : Cpu) : (r.loadX v).a = r.a := rfl
@[simp] theorem Cpu.loadX_x (v : Byte) (r : Cpu) : (r.loadX v).x = v := rfl
@[simp] theorem Cpu.loadX_y (v : Byte) (r : Cpu) : (r.loadX v).y = r.y := rfl
@[simp] theorem Cpu.loadX_pc (v : Byte) (r : Cpu) : (r.loadX v).pc = r.pc := rfl
@[simp] theorem Cpu.loadX_sp (v : Byte) (r : Cpu) : (r.loadX v).sp = r.sp := rfl
@[simp] theorem Cpu.loadX_cycl (v : Byte) (r : Cpu) : (r.loadX v).cycl = r.cycl := rfl
@[simp] theorem Cpu.loadX_next (v : Byte) (r : Cpu) : (r.loadX v).next = r.next := rfl
@[simp] theorem Cpu.loadX_killCount (v : Byte) (r : Cpu) : (r.loadX v).killCount = r.killCount := rfl
@[simp] theorem Cpu.loadX_jammed (v : Byte) (r : Cpu) : (r.loadX v).jammed = r.jammed := rfl

@[simp] theorem Cpu.loadY_a (v : Byte) (r : Cpu) : (r.loadY v).a = r.a := rfl
@[simp] theorem Cpu.loadY_x (v : Byte) (r : Cpu) : (r.loadY v).x = r.x := rfl
@[simp] theorem Cpu.loadY_y (v : Byte) (r : Cpu) : (r.loadY v).y = v := rfl
@[simp] theorem Cpu.loadY_pc (v : Byte) (r : Cpu) : (r.loadY v).pc = r.pc := rfl
@[simp] theorem Cpu.loadY_sp (v : Byte) (r : Cpu) : (r.loadY v).sp = r.sp := rfl
@[simp] theorem Cpu.loadY_cycl (v : Byte) (r : Cpu) : (r.loadY v).cycl = r.cycl := rfl
@[simp] theorem Cpu.loadY_next (v : Byte) (r : Cpu) : (r.loadY v).next = r.next := rfl
@[simp] theorem Cpu.loadY_killCount (v : Byte) (r : Cpu) : (r.loadY v).killCount = r.killCount := rfl
@[simp] theorem Cpu.loadY_jammed (v : Byte) (r : Cpu) : (r.loadY v).jammed = r.jammed := rfl

@[simp] theorem Cpu.loadAX_a (v : Byte) (r : Cpu) : (r.loadAX v).a = v := rfl
@[simp] theorem Cpu.loadAX_x (v : Byte) (r : Cpu) : (r.loadAX v).x = v := rfl
@[simp] theorem Cpu.loadAX_y (v : Byte) (r : Cpu) : (r.loadAX v).y = r.y := rfl
@[simp] theorem Cpu.loadAX_pc (v : Byte) (r : Cpu) : (r.loadAX v).pc = r.pc := rfl
@[simp] theorem Cpu.loadAX_sp (v : Byte) (r : Cpu) : (r.loadAX v).sp = r.sp := rfl
@[simp] theorem Cpu.loadAX_cycl (v : Byte) (r : Cpu) : (r.loadAX v).cycl = r.cycl := rfl
@[simp] theorem Cpu.loadAX_next (v : Byte) (r : Cpu) : (r.loadAX v).next = r.next := rfl
@[simp] theorem Cpu.loadAX_killCount (v : Byte) (r : Cpu) : (r.loadAX v).killCount = r.killCount := rfl
@[simp] theorem Cpu.loadAX_jammed (v : Byte) (r : Cpu) : (r.loadAX v).jammed = r.jammed := rfl

@[simp] theorem Cpu.loadAXSP_a (m : Byte) (r : Cpu) : (r.loadAXSP m).a = m &&& r.sp := rfl
@[simp] theorem Cpu.loadAXSP_x (m : Byte) (r : Cpu) : (r.loadAXSP m).x = m &&& r.sp := rfl
@[simp] theorem Cpu.loadAXSP_y (m : Byte) (r : Cpu) : (r.loadAXSP m).y = r.y := rfl
@[simp] theorem Cpu.loadAXSP_pc (m : Byte) (r : Cpu) : (r.loadAXSP m).pc = r.pc := rfl
@[simp] theorem Cpu.loadAXSP_sp (m : Byte) (r : Cpu) : (r.loadAXSP m).sp = m &&& r.sp := rfl
@[simp] theorem Cpu.loadAXSP_cycl (m : Byte) (r : Cpu) : (r.loadAXSP m).cycl = r.cycl := rfl
@[simp] theorem Cpu.loadAXSP_next (m : Byte) (r : Cpu) : (r.loadAXSP m).next = r.next := rfl
@[simp] theorem Cpu.loadAXSP_killCount (m : Byte) (r : Cpu) : (r.loadAXSP m).killCount = r.killCount := rfl
@[simp] theorem Cpu.loadAXSP_jammed (m : Byte) (r : Cpu) : (r.loadAXSP m).jammed = r.jammed := rfl

@[simp] theorem Cpu.loadStat_a (v : Byte) (r : Cpu) : (r.loadStat v).a = r.a := rfl
@[simp] theorem Cpu.loadStat_x (v : Byte) (r : Cpu) : (r.loadStat v).x = r.x := rfl
@[simp] theorem Cpu.loadStat_y (v : Byte) (r : Cpu) : (r.loadStat v).y = r.y := rfl
@[simp] theorem Cpu.loadStat_pc (v : Byte) (r : Cpu) : (r.loadStat v).pc = r.pc := rfl
@[simp] theorem Cpu.loadStat_sp (v : Byte) (r : Cpu) : (r.loadStat v).sp = r.sp := rfl
@[simp] theorem Cpu.loadStat_stat (v : Byte) (r : Cpu) : (r.loadStat v).stat = statFromPulled v := rfl
@[simp] theorem Cpu.loadStat_cycl (v : Byte) (r : Cpu) : (r.loadStat v).cycl = r.cycl := rfl
@[simp] theorem Cpu.loadStat_next (v : Byte) (r : Cpu) : (r.loadStat v).next = r.next := rfl
@[simp] theorem Cpu.loadStat_killCount (v : Byte) (r : Cpu) : (r.loadStat v).killCount = r.killCount := rfl
@[simp] theorem Cpu.loadStat_jammed (v : Byte) (r : Cpu) : (r.loadStat v).jammed = r.jammed := rfl

@[simp] theorem Cpu.addWithCarry_a (m : Byte) (r : Cpu) : (r.addWithCarry m).a = BitVec.ofNat 8 (r.a.toNat + m.toNat + r.c.toNat) := rfl
@[simp] theorem Cpu.addWithCarry_x (m : Byte) (r : Cpu) : (r.addWithCarry m).x = r.x := rfl
@[simp] theorem Cpu.addWithCarry_y (m : Byte) (r : Cpu) : (r.addWithCarry m).y = r.y := rfl
@[simp] theorem Cpu.addWithCarry_pc (m : Byte) (r : Cpu) : (r.addWithCarry m).pc = r.pc := rfl
@[simp] theorem Cpu.addWithCarry_sp (m : Byte) (r : Cpu) : (r.addWithCarry m).sp = r.sp := rfl
@[simp] theorem Cpu.addWithCarry_cycl (m : Byte) (r : Cpu) : (r.addWithCarry m).cycl = r.cycl := rfl
@[simp] theorem Cpu.addWithCarry_next (m : Byte) (r : Cpu) : (r.addWithCarry m).next = r.next := rfl
@[simp] theorem Cpu.addWithCarry_killCount (m : Byte) (r : Cpu) : (r.addWithCarry m).killCount = r.killCount := rfl
@[simp] theorem Cpu.addWithCarry_jammed (m : Byte) (r : Cpu) : (r.addWithCarry m).jammed = r.jammed := rfl

@[simp] theorem Cpu.subWithBorrow_x (m : Byte) (r : Cpu) : (r.subWithBorrow m).x = r.x := rfl
@[simp] theorem Cpu.subWithBorrow_y (m : Byte) (r : Cpu) : (r.subWithBorrow m).y = r.y := rfl
@[simp] theorem Cpu.subWithBorrow_pc (m : Byte) (r : Cpu) : (r.subWithBorrow m).pc = r.pc := rfl
@[simp] theorem Cpu.subWithBorrow_sp (m : Byte) (r : Cpu) : (r.subWithBorrow m).sp = r.sp := rfl
@[simp] theorem Cpu.subWithBorrow_cycl (m : Byte) (r : Cpu) : (r.subWithBorrow m).cycl = r.cycl := rfl
@[simp] theorem Cpu.subWithBorrow_next (m : Byte) (r : Cpu) : (r.subWithBorrow m).next = r.next := rfl
@[simp] theorem Cpu.subWithBorrow_killCount (m : Byte) (r : Cpu) : (r.subWithBorrow m).killCount = r.killCount := rfl
@[simp] theorem Cpu.subWithBorrow_jammed (m : Byte) (r : Cpu) : (r.subWithBorrow m).jammed = r.jammed := rfl

@[simp] theorem Cpu.compare_a (reg m : Byte) (r : Cpu) : (r.compare reg m).a = r.a := rfl
@[simp] theorem Cpu.compare_x (reg m : Byte) (r : Cpu) : (r.compare reg m).x = r.x := rfl
@[simp] theorem Cpu.compare_y (reg m : Byte) (r : Cpu) : (r.compare reg m).y = r.y := rfl
@[simp] theorem Cpu.compare_pc (reg m : Byte) (r : Cpu) : (r.compare reg m).pc = r.pc := rfl
@[simp] theorem Cpu.compare_sp (reg m : Byte) (r : Cpu) : (r.compare reg m).sp = r.sp := rfl
@[simp] theorem Cpu.compare_cycl (reg m : Byte) (r : Cpu) : (r.compare reg m).cycl = r.cycl := rfl
@[simp] theorem Cpu.compare_next (reg m : Byte) (r : Cpu) : (r.compare reg m).next = r.next := rfl
@[simp] theorem Cpu.compare_killCount (reg m : Byte) (r : Cpu) : (r.compare reg m).killCount = r.killCount := rfl
@[simp] theorem Cpu.compare_jammed (reg m : Byte) (r : Cpu) : (r.compare reg m).jammed = r.jammed := rfl

@[simp] theorem Cpu.bitTest_a (m : Byte) (r : Cpu) : (r.bitTest m).a = r.a := rfl
@[simp] theorem Cpu.bitTest_x (m : Byte) (r : Cpu) : (r.bitTest m).x = r.x := rfl
@[simp] theorem Cpu.bitTest_y (m : Byte) (r : Cpu) : (r.bitTest m).y = r.y := rfl
@[simp] theorem Cpu.bitTest_pc (m : Byte) (r : Cpu) : (r.bitTest m).pc = r.pc := rfl
@[simp] theorem Cpu.bitTest_sp (m : Byte) (r : Cpu) : (r.bitTest m).sp = r.sp := rfl
@[simp] theorem Cpu.bitTest_cycl (m : Byte) (r : Cpu) : (r.bitTest m).cycl = r.cycl := rfl
@[simp] theorem Cpu.bitTest_next (m : Byte) (r : Cpu) : (r.bitTest m).next = r.next := rfl
@[simp] theorem Cpu.bitTest_killCount (m : Byte) (r : Cpu) : (r.bitTest m).killCount = r.killCount := rfl
@[simp] theorem Cpu.bitTest_jammed (m : Byte) (r : Cpu) : (r.bitTest m).jammed = r.jammed := rfl

@[simp] theorem Cpu.shifted_a (out : Bool) (res : Byte) (r : Cpu) : (r.shifted out res).a = r.a := rfl
@[simp] theorem Cpu.shifted_x (out : Bool) (res : Byte) (r : Cpu) : (r.shifted out res).x = r.x := rfl
@[simp] theorem Cpu.shifted_y (out : Bool) (res : Byte) (r : Cpu) : (r.shifted out res).y = r.y := rfl
@[simp] theorem Cpu.shifted_pc (out : Bool) (res : Byte) (r : Cpu) : (r.shifted out res).pc = r.pc := rfl
@[simp] theorem Cpu.shifted_sp (out : Bool) (res : Byte) (r : Cpu) : (r.shifted out res).sp = r.sp := rfl
@[simp] theorem Cpu.shifted_cycl (out : Bool) (res : Byte) (r : Cpu) : (r.shifted out res).cycl = r.cycl := rfl
@[simp] theorem Cpu.shifted_next (out : Bool) (res : Byte) (r : Cpu) : (r.shifted out res).next = r.next := rfl
@[simp] theorem Cpu.shifted_killCount (out : Bool) (res : Byte) (r : Cpu) : (r.shifted out res).killCount = r.killCount := rfl
@[simp] theorem Cpu.shifted_jammed (out : Bool) (res : Byte) (r : Cpu) : (r.shifted out res).jammed = r.jammed := rfl

@[simp] theorem Cpu.shiftA_a (out : Bool) (res : Byte) (r : Cpu) : (r.shiftA out res).a = res := rfl
@[simp] theorem Cpu.shiftA_x (out : Bool) (res : Byte) (r : Cpu) : (r.shiftA out res).x = r.x := rfl
@[simp] theorem Cpu.shiftA_y (out : Bool) (res : Byte) (r : Cpu) : (r.shiftA out res).y = r.y := rfl
@[simp] theorem Cpu.shiftA_pc (out : Bool) (res : Byte) (r : Cpu) : (r.shiftA out res).pc = r.pc := rfl
@[simp] theorem Cpu.shiftA_sp (out : Bool) (res : Byte) (r : Cpu) : (r.shiftA out res).sp = r.sp := rfl
@[simp] theorem Cpu.shiftA_cycl (out : Bool) (res : Byte) (r : Cpu) : (r.shiftA out res).cycl = r.cycl := rfl
@[simp] theorem Cpu.shiftA_next (out : Bool) (res : Byte) (r : Cpu) : (r.shiftA out res).next = r.next := rfl
@[simp] theorem Cpu.shiftA_killCount (out : Bool) (res : Byte) (r : Cpu) : (r.shiftA out res).killCount = r.killCount := rfl
@[simp] theorem Cpu.shiftA_jammed (out : Bool) (res : Byte) (r : Cpu) : (r.shiftA out res).jammed = r.jammed := rfl

@[simp] theorem Cpu.andCarry_a (m : Byte) (r : Cpu) : (r.andCarry m).a = r.a &&& m := rfl
@[simp] theorem Cpu.andCarry_x (m : Byte) (r : Cpu) : (r.andCarry m).x = r.x := rfl
@[simp] theorem Cpu.andCarry_y (m : Byte) (r : Cpu) : (r.andCarry m).y = r.y := rfl
@[simp] theorem Cpu.andCarry_pc (m : Byte) (r : Cpu) : (r.andCarry m).pc = r.pc := rfl
@[simp] theorem Cpu.andCarry_sp (m : Byte) (r : Cpu) : (r.andCarry m).sp = r.sp := rfl
@[simp] theorem Cpu.andCarry_cycl (m : Byte) (r : Cpu) : (r.andCarry m).cycl = r.cycl := rfl
@[simp] theorem Cpu.andCarry_next (m : Byte) (r : Cpu) : (r.andCarry m).next = r.next := rfl
@[simp] theorem Cpu.andCarry_killCount (m : Byte) (r : Cpu) : (r.andCarry m).killCount = r.killCount := rfl
@[simp] theorem Cpu.andCarry_jammed (m : Byte) (r : Cpu) : (r.andCarry m).jammed = r.jammed := rfl

@[simp] theorem Cpu.andShiftRight_a (m : Byte) (r : Cpu) : (r.andShiftRight m).a = shiftRight (r.a &&& m) := rfl
@[simp] theorem Cpu.andShiftRight_x (m : Byte) (r : Cpu) : (r.andShiftRight m).x = r.x := rfl
@[simp] theorem Cpu.andShiftRight_y (m : Byte) (r : Cpu) : (r.andShiftRight m).y = r.y := rfl
@[simp] theorem Cpu.andShiftRight_pc (m : Byte) (r : Cpu) : (r.andShiftRight m).pc = r.pc := rfl
@[simp] theorem Cpu.andShiftRight_sp (m : Byte) (r : Cpu) : (r.andShiftRight m).sp = r.sp := rfl
@[simp] theorem Cpu.andShiftRight_cycl (m : Byte) (r : Cpu) : (r.andShiftRight m).cycl = r.cycl := rfl
@[simp] theorem Cpu.andShiftRight_next (m : Byte) (r : Cpu) : (r.andShiftRight m).next = r.next := rfl
@[simp] theorem Cpu.andShiftRight_killCount (m : Byte) (r : Cpu) : (r.andShiftRight m).killCount = r.killCount := rfl
@[simp] theorem Cpu.andShiftRight_jammed (m : Byte) (r : Cpu) : (r.andShiftRight m).jammed = r.jammed := rfl

@[simp] theorem Cpu.andRotateRight_a (m : Byte) (r : Cpu) : (r.andRotateRight m).a = rotateRight (r.a &&& m) r.c := rfl
@[simp] theorem Cpu.andRotateRight_x (m : Byte) (r : Cpu) : (r.andRotateRight m).x = r.x := rfl
@[simp] theorem Cpu.andRotateRight_y (m : Byte) (r : Cpu) : (r.andRotateRight m).y = r.y := rfl
@[simp] theorem Cpu.andRotateRight_pc (m : Byte) (r : Cpu) : (r.andRotateRight m).pc = r.pc := rfl
@[simp] theorem Cpu.andRotateRight_sp (m : Byte) (r : Cpu) : (r.andRotateRight m).sp = r.sp := rfl
@[simp] theorem Cpu.andRotateRight_cycl (m : Byte) (r : Cpu) : (r.andRotateRight m).cycl = r.cycl := rfl
@[simp] theorem Cpu.andRotateRight_next (m : Byte) (r : Cpu) : (r.andRotateRight m).next = r.next := rfl
@[simp] theorem Cpu.andRotateRight_killCount (m : Byte) (r : Cpu) : (r.andRotateRight m).killCount = r.killCount := rfl
@[simp] theorem Cpu.andRotateRight_jammed (m : Byte) (r : Cpu) : (r.andRotateRight m).jammed = r.jammed := rfl

@[simp] theorem Cpu.andXSubtract_a (m : Byte) (r : Cpu) : (r.andXSubtract m).a = r.a := rfl
@[simp] theorem Cpu.andXSubtract_x (m : Byte) (r : Cpu) : (r.andXSubtract m).x = (r.a &&& r.x) - m := rfl
@[simp] theorem Cpu.andXSubtract_y (m : Byte) (r : Cpu) : (r.andXSubtract m).y = r.y := rfl
@[simp] theorem Cpu.andXSubtract_pc (m : Byte) (r : Cpu) : (r.andXSubtract m).pc = r.pc := rfl
@[simp] theorem Cpu.andXSubtract_sp (m : Byte) (r : Cpu) : (r.andXSubtract m).sp = r.sp := rfl
@[simp] theorem Cpu.andXSubtract_cycl (m : Byte) (r : Cpu) : (r.andXSubtract m).cycl = r.cycl := rfl
@[simp] theorem Cpu.andXSubtract_next (m : Byte) (r : Cpu) : (r.andXSubtract m).next = r.next := rfl
@[simp] theorem Cpu.andXSubtract_killCount (m : Byte) (r : Cpu) : (r.andXSubtract m).killCount = r.killCount := rfl
@[simp] theorem Cpu.andXSubtract_jammed (m : Byte) (r : Cpu) : (r.andXSubtract m).jammed = r.jammed := rfl

@[simp] theorem Cpu.andA_a (m : Byte) (r : Cpu) : (r.andA m).a = r.a &&& m := rfl
@[simp] theorem Cpu.andA_x (m : Byte) (r : Cpu) : (r.andA m).x = r.x := rfl
@[simp] theorem Cpu.andA_y (m : Byte) (r : Cpu) : (r.andA m).y = r.y := rfl
@[simp] theorem Cpu.andA_pc (m : Byte) (r : Cpu) : (r.andA m).pc = r.pc := rfl
@[simp] theorem Cpu.andA_sp (m : Byte) (r : Cpu) : (r.andA m).sp = r.sp := rfl
@[simp] theorem Cpu.andA_cycl (m : Byte) (r : Cpu) : (r.andA m).cycl = r.cycl := rfl
@[simp] theorem Cpu.andA_next (m : Byte) (r : Cpu) : (r.andA m).next = r.next := rfl
@[simp] theorem Cpu.andA_killCount (m : Byte) (r : Cpu) : (r.andA m).killCount = r.killCount := rfl
@[simp] theorem Cpu.andA_jammed (m : Byte) (r : Cpu) : (r.andA m).jammed = r.jammed := rfl

@[simp] theorem Cpu.orA_a (m : Byte) (r : Cpu) : (r.orA m).a = r.a ||| m := rfl
@[simp] theorem Cpu.orA_x (m : Byte) (r : Cpu) : (r.orA m).x = r.x := rfl
@[simp] theorem Cpu.orA_y (m : Byte) (r : Cpu) : (r.orA m).y = r.y := rfl
@[simp] theorem Cpu.orA_pc (m : Byte) (r : Cpu) : (r.orA m).pc = r.pc := rfl
@[simp] theorem Cpu.orA_sp (m : Byte) (r : Cpu) : (r.orA m).sp = r.sp := rfl
@[simp] theorem Cpu.orA_cycl (m : Byte) (r : Cpu) : (r.orA m).cycl = r.cycl := rfl
@[simp] theorem Cpu.orA_next (m : Byte) (r : Cpu) : (r.orA m).next = r.next := rfl
@[simp] theorem Cpu.orA_killCount (m : Byte) (r : Cpu) : (r.orA m).killCount = r.killCount := rfl
@[simp] theorem Cpu.orA_jammed (m : Byte) (r : Cpu) : (r.orA m).jammed = r.jammed := rfl

@[simp] theorem Cpu.eorA_a (m : Byte) (r : Cpu) : (r.eorA m).a = r.a ^^^ m := rfl
@[simp] theorem Cpu.eorA_x (m : Byte) (r : Cpu) : (r.eorA m).x = r.x := rfl
@[simp] theorem Cpu.eorA_y (m : Byte) (r : Cpu) : (r.eorA m).y = r.y := rfl
@[simp] theorem Cpu.eorA_pc (m : Byte) (r : Cpu) : (r.eorA m).pc = r.pc := rfl
@[simp] theorem Cpu.eorA_sp (m : Byte) (r : Cpu) : (r.eorA m).sp = r.sp := rfl
@[simp] theorem Cpu.eorA_cycl (m : Byte) (r : Cpu) : (r.eorA m).cycl = r.cycl := rfl
@[simp] theorem Cpu.eorA_next (m : Byte) (r : Cpu) : (r.eorA m).next = r.next := rfl
@[simp] theorem Cpu.eorA_killCount (m : Byte) (r : Cpu) : (r.eorA m).killCount = r.killCount := rfl
@[simp] theorem Cpu.eorA_jammed (m : Byte) (r : Cpu) : (r.eorA m).jammed = r.jammed := rfl

@[simp] theorem Cpu.cmpA_a (m : Byte) (r : Cpu) : (r.cmpA m).a = r.a := rfl
@[simp] theorem Cpu.cmpA_x (m : Byte) (r : Cpu) : (r.cmpA m).x = r.x := rfl
@[simp] theorem Cpu.cmpA_y (m : Byte) (r : Cpu) : (r.cmpA m).y = r.y := rfl
@[simp] theorem Cpu.cmpA_pc (m : Byte) (r : Cpu) : (r.cmpA m).pc = r.pc := rfl
@[simp] theorem Cpu.cmpA_sp (m : Byte) (r : Cpu) : (r.cmpA m).sp = r.sp := rfl
@[simp] theorem Cpu.cmpA_cycl (m : Byte) (r : Cpu) : (r.cmpA m).cycl = r.cycl := rfl
@[simp] theorem Cpu.cmpA_next (m : Byte) (r : Cpu) : (r.cmpA m).next = r.next := rfl
@[simp] theorem Cpu.cmpA_killCount (m : Byte) (r : Cpu) : (r.cmpA m).killCount = r.killCount := rfl
@[simp] theorem Cpu.cmpA_jammed (m : Byte) (r : Cpu) : (r.cmpA m).jammed = r.jammed := rfl

@[simp] theorem Cpu.cmpX_a (m : Byte) (r : Cpu) : (r.cmpX m).a = r.a := rfl
@[simp] theorem Cpu.cmpX_x (m : Byte) (r : Cpu) : (r.cmpX m).x = r.x := rfl
@[simp] theorem Cpu.cmpX_y (m : Byte) (r : Cpu) : (r.cmpX m).y = r.y := rfl
@[simp] theorem Cpu.cmpX_pc (m : Byte) (r : Cpu) : (r.cmpX m).pc = r.pc := rfl
@[simp] theorem Cpu.cmpX_sp (m : Byte) (r : Cpu) : (r.cmpX m).sp = r.sp := rfl
@[simp] theorem Cpu.cmpX_cycl (m : Byte) (r : Cpu) : (r.cmpX m).cycl = r.cycl := rfl
@[simp] theorem Cpu.cmpX_next (m : Byte) (r : Cpu) : (r.cmpX m).next = r.next := rfl
@[simp] theorem Cpu.cmpX_killCount (m : Byte) (r : Cpu) : (r.cmpX m).killCount = r.killCount := rfl
@[simp] theorem Cpu.cmpX_jammed (m : Byte) (r : Cpu) : (r.cmpX m).jammed = r.jammed := rfl

@[simp] theorem Cpu.cmpY_a (m : Byte) (r : Cpu) : (r.cmpY m).a = r.a := rfl
@[simp] theorem Cpu.cmpY_x (m : Byte) (r : Cpu) : (r.cmpY m).x = r.x := rfl
@[simp] theorem Cpu.cmpY_y (m : Byte) (r : Cpu) : (r.cmpY m).y = r.y := rfl
@[simp] theorem Cpu.cmpY_pc (m : Byte) (r : Cpu) : (r.cmpY m).pc = r.pc := rfl
@[simp] theorem Cpu.cmpY_sp (m : Byte) (r : Cpu) : (r.cmpY m).sp = r.sp := rfl
@[simp] theorem Cpu.cmpY_cycl (m : Byte) (r : Cpu) : (r.cmpY m).cycl = r.cycl := rfl
@[simp] theorem Cpu.cmpY_next (m : Byte) (r : Cpu) : (r.cmpY m).next = r.next := rfl
@[simp] theorem Cpu.cmpY_killCount (m : Byte) (r : Cpu) : (r.cmpY m).killCount = r.killCount := rfl
@[simp] theorem Cpu.cmpY_jammed (m : Byte) (r : Cpu) : (r.cmpY m).jammed = r.jammed := rfl

/-! ### The flags -/

/-- Bit `m` of a byte after bit `n` was put. -/
@[simp] theorem getElem_putBit (n m : Nat) (b : Bool) (v : Byte) (hm : m < 8) :
    (putBit n b v)[m] = if m = n then b else v[m] := by
  by_cases h : m = n
  · subst h; cases b <;> simp [putBit]
  · cases b <;> simp [putBit, h] <;> omega

/-- The same for a bit read with `getLsbD`. -/
theorem getLsbD_putBit (n m : Nat) (b : Bool) (v : Byte) (hm : m < 8) :
    (putBit n b v).getLsbD m = if m = n then b else v.getLsbD m := by
  simp [BitVec.getLsbD_eq_getElem, hm]

@[simp] theorem Cpu.setC_c (b : Bool) (r : Cpu) : (r.setC b).c = b := by
  simp [Cpu.setC, Cpu.c]
@[simp] theorem Cpu.setC_z (b : Bool) (r : Cpu) : (r.setC b).z = r.z := by
  simp [Cpu.setC, Cpu.z]
@[simp] theorem Cpu.setC_i (b : Bool) (r : Cpu) : (r.setC b).i = r.i := by
  simp [Cpu.setC, Cpu.i]
@[simp] theorem Cpu.setC_d (b : Bool) (r : Cpu) : (r.setC b).d = r.d := by
  simp [Cpu.setC, Cpu.d]
@[simp] theorem Cpu.setC_b1 (b : Bool) (r : Cpu) : (r.setC b).b1 = r.b1 := by
  simp [Cpu.setC, Cpu.b1]
@[simp] theorem Cpu.setC_b2 (b : Bool) (r : Cpu) : (r.setC b).b2 = r.b2 := by
  simp [Cpu.setC, Cpu.b2]
@[simp] theorem Cpu.setC_v (b : Bool) (r : Cpu) : (r.setC b).v = r.v := by
  simp [Cpu.setC, Cpu.v]
@[simp] theorem Cpu.setC_n (b : Bool) (r : Cpu) : (r.setC b).n = r.n := by
  simp [Cpu.setC, Cpu.n]

@[simp] theorem Cpu.setZ_c (b : Bool) (r : Cpu) : (r.setZ b).c = r.c := by
  simp [Cpu.setZ, Cpu.c]
@[simp] theorem Cpu.setZ_z (b : Bool) (r : Cpu) : (r.setZ b).z = b := by
  simp [Cpu.setZ, Cpu.z]
@[simp] theorem Cpu.setZ_i (b : Bool) (r : Cpu) : (r.setZ b).i = r.i := by
  simp [Cpu.setZ, Cpu.i]
@[simp] theorem Cpu.setZ_d (b : Bool) (r : Cpu) : (r.setZ b).d = r.d := by
  simp [Cpu.setZ, Cpu.d]
@[simp] theorem Cpu.setZ_b1 (b : Bool) (r : Cpu) : (r.setZ b).b1 = r.b1 := by
  simp [Cpu.setZ, Cpu.b1]
@[simp] theorem Cpu.setZ_b2 (b : Bool) (r : Cpu) : (r.setZ b).b2 = r.b2 := by
  simp [Cpu.setZ, Cpu.b2]
@[simp] theorem Cpu.setZ_v (b : Bool) (r : Cpu) : (r.setZ b).v = r.v := by
  simp [Cpu.setZ, Cpu.v]
@[simp] theorem Cpu.setZ_n (b : Bool) (r : Cpu) : (r.setZ b).n = r.n := by
  simp [Cpu.setZ, Cpu.n]

@[simp] theorem Cpu.setI_c (b : Bool) (r : Cpu) : (r.setI b).c = r.c := by
  simp [Cpu.setI, Cpu.c]
@[simp] theorem Cpu.setI_z (b : Bool) (r : Cpu) : (r.setI b).z = r.z := by
  simp [Cpu.setI, Cpu.z]
@[simp] theorem Cpu.setI_i (b : Bool) (r : Cpu) : (r.setI b).i = b := by
  simp [Cpu.setI, Cpu.i]
@[simp] theorem Cpu.setI_d (b : Bool) (r : Cpu) : (r.setI b).d = r.d := by
  simp [Cpu.setI, Cpu.d]
@[simp] theorem Cpu.setI_b1 (b : Bool) (r : Cpu) : (r.setI b).b1 = r.b1 := by
  simp [Cpu.setI, Cpu.b1]
@[simp] theorem Cpu.setI_b2 (b : Bool) (r : Cpu) : (r.setI b).b2 = r.b2 := by
  simp [Cpu.setI, Cpu.b2]
@[simp] theorem Cpu.setI_v (b : Bool) (r : Cpu) : (r.setI b).v = r.v := by
  simp [Cpu.setI, Cpu.v]
@[simp] theorem Cpu.setI_n (b : Bool) (r : Cpu) : (r.setI b).n = r.n := by
  simp [Cpu.setI, Cpu.n]

@[simp] theorem Cpu.setD_c (b : Bool) (r : Cpu) : (r.setD b).c = r.c := by
  simp [Cpu.setD, Cpu.c]
@[simp] theorem Cpu.setD_z (b : Bool) (r : Cpu) : (r.setD b).z = r.z := by
  simp [Cpu.setD, Cpu.z]
@[simp] theorem Cpu.setD_i (b : Bool) (r : Cpu) : (r.setD b).i = r.i := by
  simp [Cpu.setD, Cpu.i]
@[simp] theorem Cpu.setD_d (b : Bool) (r : Cpu) : (r.setD b).d = b := by
  simp [Cpu.setD, Cpu.d]
@[simp] theorem Cpu.setD_b1 (b : Bool) (r : Cpu) : (r.setD b).b1 = r.b1 := by
  simp [Cpu.setD, Cpu.b1]
@[simp] theorem Cpu.setD_b2 (b : Bool) (r : Cpu) : (r.setD b).b2 = r.b2 := by
  simp [Cpu.setD, Cpu.b2]
@[simp] theorem Cpu.setD_v (b : Bool) (r : Cpu) : (r.setD b).v = r.v := by
  simp [Cpu.setD, Cpu.v]
@[simp] theorem Cpu.setD_n (b : Bool) (r : Cpu) : (r.setD b).n = r.n := by
  simp [Cpu.setD, Cpu.n]

@[simp] theorem Cpu.setV_c (b : Bool) (r : Cpu) : (r.setV b).c = r.c := by
  simp [Cpu.setV, Cpu.c]
@[simp] theorem Cpu.setV_z (b : Bool) (r : Cpu) : (r.setV b).z = r.z := by
  simp [Cpu.setV, Cpu.z]
@[simp] theorem Cpu.setV_i (b : Bool) (r : Cpu) : (r.setV b).i = r.i := by
  simp [Cpu.setV, Cpu.i]
@[simp] theorem Cpu.setV_d (b : Bool) (r : Cpu) : (r.setV b).d = r.d := by
  simp [Cpu.setV, Cpu.d]
@[simp] theorem Cpu.setV_b1 (b : Bool) (r : Cpu) : (r.setV b).b1 = r.b1 := by
  simp [Cpu.setV, Cpu.b1]
@[simp] theorem Cpu.setV_b2 (b : Bool) (r : Cpu) : (r.setV b).b2 = r.b2 := by
  simp [Cpu.setV, Cpu.b2]
@[simp] theorem Cpu.setV_v (b : Bool) (r : Cpu) : (r.setV b).v = b := by
  simp [Cpu.setV, Cpu.v]
@[simp] theorem Cpu.setV_n (b : Bool) (r : Cpu) : (r.setV b).n = r.n := by
  simp [Cpu.setV, Cpu.n]

@[simp] theorem Cpu.setN_c (b : Bool) (r : Cpu) : (r.setN b).c = r.c := by
  simp [Cpu.setN, Cpu.c]
@[simp] theorem Cpu.setN_z (b : Bool) (r : Cpu) : (r.setN b).z = r.z := by
  simp [Cpu.setN, Cpu.z]
@[simp] theorem Cpu.setN_i (b : Bool) (r : Cpu) : (r.setN b).i = r.i := by
  simp [Cpu.setN, Cpu.i]
@[simp] theorem Cpu.setN_d (b : Bool) (r : Cpu) : (r.setN b).d = r.d := by
  simp [Cpu.setN, Cpu.d]
@[simp] theorem Cpu.setN_b1 (b : Bool) (r : Cpu) : (r.setN b).b1 = r.b1 := by
  simp [Cpu.setN, Cpu.b1]
@[simp] theorem Cpu.setN_b2 (b : Bool) (r : Cpu) : (r.setN b).b2 = r.b2 := by
  simp [Cpu.setN, Cpu.b2]
@[simp] theorem Cpu.setN_v (b : Bool) (r : Cpu) : (r.setN b).v = r.v := by
  simp [Cpu.setN, Cpu.v]
@[simp] theorem Cpu.setN_n (b : Bool) (r : Cpu) : (r.setN b).n = b := by
  simp [Cpu.setN, Cpu.n]

@[simp] theorem Cpu.setZN_c (v : Byte) (r : Cpu) : (r.setZN v).c = r.c := by
  simp [Cpu.setZN]
@[simp] theorem Cpu.setZN_z (v : Byte) (r : Cpu) : (r.setZN v).z = (v == 0#8) := by
  simp [Cpu.setZN]
@[simp] theorem Cpu.setZN_i (v : Byte) (r : Cpu) : (r.setZN v).i = r.i := by
  simp [Cpu.setZN]
@[simp] theorem Cpu.setZN_d (v : Byte) (r : Cpu) : (r.setZN v).d = r.d := by
  simp [Cpu.setZN]
@[simp] theorem Cpu.setZN_b1 (v : Byte) (r : Cpu) : (r.setZN v).b1 = r.b1 := by
  simp [Cpu.setZN]
@[simp] theorem Cpu.setZN_b2 (v : Byte) (r : Cpu) : (r.setZN v).b2 = r.b2 := by
  simp [Cpu.setZN]
@[simp] theorem Cpu.setZN_v (v : Byte) (r : Cpu) : (r.setZN v).v = r.v := by
  simp [Cpu.setZN]
@[simp] theorem Cpu.setZN_n (v : Byte) (r : Cpu) : (r.setZN v).n = v.getLsbD 7 := by
  simp [Cpu.setZN]

/-- STAT is what the fold of its eight flags gives: two STAT bytes with the same flags are equal. -/
theorem stat_ext {p q : Cpu} (hc : p.c = q.c) (hz : p.z = q.z) (hi : p.i = q.i) (hd : p.d = q.d)
    (h1 : p.b1 = q.b1) (h2 : p.b2 = q.b2) (hv : p.v = q.v) (hn : p.n = q.n) : p.stat = q.stat := by
  apply BitVec.eq_of_getLsbD_eq
  intro i hlt
  simp only [Cpu.c, Cpu.z, Cpu.i, Cpu.d, Cpu.b1, Cpu.b2, Cpu.v, Cpu.n] at *
  have h : i = 0 ∨ i = 1 ∨ i = 2 ∨ i = 3 ∨ i = 4 ∨ i = 5 ∨ i = 6 ∨ i = 7 := by omega
  rcases h with h | h | h | h | h | h | h | h <;> subst h <;> assumption

end Sys2Proof.Machine
end

