-- ==== Sys2Proof/Laws/Ops.lean ====
section
/-! SUPPORT. What the shared operations can do: the bus, the stack, interrupt entry and return, reset. Each
`_cases` lemma lists every way the operation can change the state; the lemmas after it say what it
leaves alone. -/

namespace Sys2Proof.Machine

/-! ### Bus reads -/

/-- A bus read changes nothing, or has one of the four side effects of R57. -/
theorem busRead_cases (a : Addr) (s : State) :
    (busRead a s).2 = s ∨ (busRead a s).2 = s.mapPpu Ppu.afterStatusRead ∨
    (busRead a s).2 = s.mapPpu (fun p => { p with oamAddr := p.oamAddr + 1#8 }) ∨
    (∃ b, (busRead a s).2 = s.mapPpu fun p => { p with dataBuffer := b }.advanceV) ∨
    (busRead a s).2 = { s with input := s.input.shift.2 } := by
  unfold busRead
  split
  · exact .inl rfl
  split
  · unfold ppuRegRead
    split
    · exact .inr (.inl rfl)
    · exact .inr (.inr (.inl rfl))
    · refine .inr (.inr (.inr (.inl ?_)))
      unfold readPpuData
      simp only
      split
      · exact ⟨_, rfl⟩
      · exact ⟨_, rfl⟩
    · exact .inl rfl
  split
  · exact .inr (.inr (.inr (.inr rfl)))
  split <;> exact .inl rfl

@[simp] theorem busRead_cpu (a : Addr) (s : State) : (busRead a s).2.cpu = s.cpu := by
  rcases busRead_cases a s with h | h | h | ⟨b, h⟩ | h <;> rw [h] <;> rfl

@[simp] theorem busRead_bus (a : Addr) (s : State) : (busRead a s).2.bus = s.bus := by
  rcases busRead_cases a s with h | h | h | ⟨b, h⟩ | h <;> rw [h] <;> rfl

@[simp] theorem busRead_cart (a : Addr) (s : State) : (busRead a s).2.cart = s.cart := by
  rcases busRead_cases a s with h | h | h | ⟨b, h⟩ | h <;> rw [h] <;> rfl

@[simp] theorem busRead_launch (a : Addr) (s : State) : (busRead a s).2.launch = s.launch := by
  rcases busRead_cases a s with h | h | h | ⟨b, h⟩ | h <;> rw [h] <;> rfl

@[simp] theorem busRead_oam (a : Addr) (s : State) : (busRead a s).2.ppu.oam = s.ppu.oam := by
  rcases busRead_cases a s with h | h | h | ⟨b, h⟩ | h <;> rw [h] <;> rfl

@[simp] theorem busRead_nt (a : Addr) (s : State) : (busRead a s).2.ppu.nt = s.ppu.nt := by
  rcases busRead_cases a s with h | h | h | ⟨b, h⟩ | h <;> rw [h] <;> rfl

@[simp] theorem busRead_pal (a : Addr) (s : State) : (busRead a s).2.ppu.pal = s.ppu.pal := by
  rcases busRead_cases a s with h | h | h | ⟨b, h⟩ | h <;> rw [h] <;> rfl

@[simp] theorem busRead_frame (a : Addr) (s : State) : (busRead a s).2.ppu.frame = s.ppu.frame := by
  rcases busRead_cases a s with h | h | h | ⟨b, h⟩ | h <;> rw [h] <;> rfl

/-- A read of RAM is the byte of its cell, and changes nothing. -/
theorem busRead_ram {a : Addr} (h : a.ult 0x2000#16 = true) (s : State) :
    busRead a s = (s.bus.ram.get (ramCell a), s) := by
  simp [busRead, h]

/-- A read of the cartridge's upper window is the cartridge's answer, and changes nothing. -/
theorem busRead_cartridge {a : Addr} (h : (0x8000#16).ule a = true) (s : State) :
    busRead a s = (s.cart.cpuRead a, s) := by
  have h1 : a.ult 0x2000#16 = false := by
    simp only [BitVec.ule, BitVec.ult, decide_eq_true_eq, decide_eq_false_iff_not] at *
    simp at *; omega
  have h2 : a.ult 0x4000#16 = false := by
    simp only [BitVec.ule, BitVec.ult, decide_eq_true_eq, decide_eq_false_iff_not] at *
    simp at *; omega
  have h3 : a ≠ 0x4016#16 := by
    rintro rfl
    exact absurd h (by decide)
  simp [busRead, h1, h2, h3, cartridgeAnswers, h]

/-! ### Bus writes -/

/-- A PPU register write leaves the CPU, the bus but for the NMI request, and the launch alone. -/
theorem ppuRegWrite_cases (r : Nat) (v : Byte) (s : State) :
    ppuRegWrite r v s = s ∨ ppuRegWrite r v s = writePpuCtrl v s ∨
    (∃ f, ppuRegWrite r v s = s.mapPpu f ∧
      (f = (fun p => { p with mask := v }) ∨ f = (fun p => { p with oamAddr := v }) ∨
        f = Ppu.writeOamData v ∨ f = Ppu.writeScroll v ∨ f = Ppu.writeAddr v)) ∨
    ppuRegWrite r v s = (ppuWrite (s.ppu.v &&& 0x3FFF#16) v s).mapPpu Ppu.advanceV := by
  unfold ppuRegWrite
  split
  · exact .inr (.inl rfl)
  · exact .inr (.inr (.inl ⟨_, rfl, .inl rfl⟩))
  · exact .inr (.inr (.inl ⟨_, rfl, .inr (.inl rfl)⟩))
  · exact .inr (.inr (.inl ⟨_, rfl, .inr (.inr (.inl rfl))⟩))
  · exact .inr (.inr (.inl ⟨_, rfl, .inr (.inr (.inr (.inl rfl)))⟩))
  · exact .inr (.inr (.inl ⟨_, rfl, .inr (.inr (.inr (.inr rfl)))⟩))
  · exact .inr (.inr (.inr rfl))
  · exact .inl rfl

/-- A write to the PPU address space goes to the cartridge, a nametable or the palette. -/
theorem ppuWrite_cases (a : Addr) (v : Byte) (s : State) :
    ppuWrite a v s = { s with cart := s.cart.ppuWrite (a &&& 0x3FFF#16) v } ∨
    ppuWrite a v s = s.mapPpu (fun p =>
      { p with nt := p.nt.put (ntCell s.cart.mirroring (a &&& 0x3FFF#16)) v }) ∨
    ppuWrite a v s = s.mapPpu (fun p =>
      { p with pal := p.pal.put (palIndex (a &&& 0x3FFF#16)) (v &&& 0x3F#8) }) := by
  unfold ppuWrite
  simp only
  split
  · exact .inl rfl
  split
  · exact .inr (.inl rfl)
  · exact .inr (.inr rfl)

@[simp] theorem ppuWrite_cpu (a : Addr) (v : Byte) (s : State) : (ppuWrite a v s).cpu = s.cpu := by
  rcases ppuWrite_cases a v s with h | h | h <;> rw [h] <;> rfl

@[simp] theorem ppuWrite_bus (a : Addr) (v : Byte) (s : State) : (ppuWrite a v s).bus = s.bus := by
  rcases ppuWrite_cases a v s with h | h | h <;> rw [h] <;> rfl

@[simp] theorem ppuWrite_input (a : Addr) (v : Byte) (s : State) : (ppuWrite a v s).input = s.input := by
  rcases ppuWrite_cases a v s with h | h | h <;> rw [h] <;> rfl

@[simp] theorem ppuWrite_launch (a : Addr) (v : Byte) (s : State) :
    (ppuWrite a v s).launch = s.launch := by
  rcases ppuWrite_cases a v s with h | h | h <;> rw [h] <;> rfl

@[simp] theorem ppuRegWrite_cpu (r : Nat) (v : Byte) (s : State) : (ppuRegWrite r v s).cpu = s.cpu := by
  rcases ppuRegWrite_cases r v s with h | h | ⟨f, h, -⟩ | h <;> rw [h] <;> simp [writePpuCtrl]

@[simp] theorem ppuRegWrite_launch (r : Nat) (v : Byte) (s : State) :
    (ppuRegWrite r v s).launch = s.launch := by
  rcases ppuRegWrite_cases r v s with h | h | ⟨f, h, -⟩ | h <;> rw [h] <;> simp [writePpuCtrl]

@[simp] theorem ppuRegWrite_ram (r : Nat) (v : Byte) (s : State) :
    (ppuRegWrite r v s).bus.ram = s.bus.ram := by
  rcases ppuRegWrite_cases r v s with h | h | ⟨f, h, -⟩ | h <;> rw [h] <;> simp [writePpuCtrl]

/-- A bus write stores in RAM, writes a PPU register, arms the DMA, writes the controller port, goes to
the cartridge, or does nothing (R48). -/
theorem busWrite_cases (a : Addr) (v : Byte) (s : State) :
    (a.ult 0x2000#16 = true ∧
      busWrite a v s = { s with bus := { s.bus with ram := s.bus.ram.put (ramCell a) v } }) ∨
    (a.ult 0x2000#16 = false ∧
      (busWrite a v s = ppuRegWrite (ppuRegNumber a) v s ∨ busWrite a v s = dmaArm v s ∨
        busWrite a v s = controllerWrite v s ∨ busWrite a v s = { s with cart := s.cart.cpuWrite a v } ∨
        busWrite a v s = s)) := by
  unfold busWrite
  split
  · rename_i h
    exact .inl ⟨h, rfl⟩
  · rename_i h
    refine .inr ⟨by simpa using h, ?_⟩
    split
    · exact .inl rfl
    split
    · exact .inr (.inl rfl)
    split
    · exact .inr (.inr (.inl rfl))
    split
    · exact .inr (.inr (.inr (.inl rfl)))
    · exact .inr (.inr (.inr (.inr rfl)))

@[simp] theorem busWrite_cpu (a : Addr) (v : Byte) (s : State) : (busWrite a v s).cpu = s.cpu := by
  rcases busWrite_cases a v s with ⟨-, h⟩ | ⟨-, h | h | h | h | h⟩ <;> rw [h] <;>
    simp [dmaArm, controllerWrite]

@[simp] theorem busWrite_launch (a : Addr) (v : Byte) (s : State) :
    (busWrite a v s).launch = s.launch := by
  rcases busWrite_cases a v s with ⟨-, h⟩ | ⟨-, h | h | h | h | h⟩ <;> rw [h] <;>
    simp [dmaArm, controllerWrite]

/-- A write outside RAM leaves RAM alone. -/
theorem busWrite_ram_of_not_ult {a : Addr} (h : a.ult 0x2000#16 = false) (v : Byte) (s : State) :
    (busWrite a v s).bus.ram = s.bus.ram := by
  rcases busWrite_cases a v s with ⟨h1, -⟩ | ⟨-, h | h | h | h | h⟩
  · exact absurd (h1.symm.trans h) (by decide)
  all_goals simp [h, dmaArm, controllerWrite]

/-- A write to RAM stores the byte in its cell and nothing else. -/
theorem busWrite_ram {a : Addr} (h : a.ult 0x2000#16 = true) (v : Byte) (s : State) :
    busWrite a v s = { s with bus := { s.bus with ram := s.bus.ram.put (ramCell a) v } } := by
  simp [busWrite, h]

/-! ### The stack -/

/-- Every stack address is in RAM. -/
theorem stackAddr_ult (sp : Byte) : (stackAddr sp).ult 0x2000#16 = true := by
  revert sp; decide

/-- The stack's cells are 0x100 to 0x1FF. -/
theorem ramCell_stackAddr (sp : Byte) : ramCell (stackAddr sp) = 256 + sp.toNat := by
  revert sp; decide

/-- A push stores in RAM and decrements SP; nothing else changes. -/
theorem push_eq (v : Byte) (s : State) :
    push v s = { s with
      bus := { s.bus with ram := s.bus.ram.put (256 + s.cpu.sp.toNat) v }
      cpu := { s.cpu with sp := s.cpu.sp - 1#8 } } := by
  simp [push, busWrite_ram (stackAddr_ult _), ramCell_stackAddr, State.mapCpu]

/-- A pull reads RAM after incrementing SP; nothing else changes. -/
theorem pull_eq (s : State) :
    pull s = (s.bus.ram.get (256 + (s.cpu.sp + 1#8).toNat),
      { s with cpu := { s.cpu with sp := s.cpu.sp + 1#8 } }) := by
  simp [pull, busRead_ram (stackAddr_ult _), ramCell_stackAddr, State.mapCpu]

/-- A word read at the vectors is two bytes of the cartridge, and changes nothing. -/
theorem readWord_cartridge {a : Addr} (h : (0x8000#16).ule a = true)
    (h1 : (0x8000#16).ule (a + 1#16) = true) (s : State) :
    readWord a s = (mkAddr (s.cart.cpuRead (a + 1#16)) (s.cart.cpuRead a), s) := by
  simp [readWord, busRead_cartridge h, busRead_cartridge h1]

/-- The word at an interrupt's vector. -/
theorem readWord_vector (k : Interrupt) (s : State) :
    readWord k.vector s = (mkAddr (s.cart.cpuRead (k.vector + 1#16)) (s.cart.cpuRead k.vector), s) := by
  cases k <;> exact readWord_cartridge (by decide) (by decide) s

/-! ### Operands -/

@[simp] theorem readWord_cpu (a : Addr) (s : State) : (readWord a s).2.cpu = s.cpu := by
  simp [readWord]

@[simp] theorem readWordWrap_cpu (a : Addr) (s : State) : (readWordWrap a s).2.cpu = s.cpu := by
  simp [readWordWrap]

@[simp] theorem readWordWrap_bus (a : Addr) (s : State) : (readWordWrap a s).2.bus = s.bus := by
  simp [readWordWrap]

@[simp] theorem readWordWrap_cart (a : Addr) (s : State) : (readWordWrap a s).2.cart = s.cart := by
  simp [readWordWrap]

@[simp] theorem readWordWrap_launch (a : Addr) (s : State) : (readWordWrap a s).2.launch = s.launch := by
  simp [readWordWrap]

@[simp] theorem resolve_cpu (o : Operand) (b : Bool) (s : State) : (resolve o b s).state.cpu = s.cpu := by
  cases o <;> simp [resolve]

@[simp] theorem resolve_bus (o : Operand) (b : Bool) (s : State) : (resolve o b s).state.bus = s.bus := by
  cases o <;> simp [resolve]

@[simp] theorem resolve_cart (o : Operand) (b : Bool) (s : State) :
    (resolve o b s).state.cart = s.cart := by
  cases o <;> simp [resolve]

@[simp] theorem resolve_launch (o : Operand) (b : Bool) (s : State) :
    (resolve o b s).state.launch = s.launch := by
  cases o <;> simp [resolve]

/-- The effective address and the state do not depend on the page-sensitive bit. -/
theorem resolve_sensitive (o : Operand) (b b' : Bool) (s : State) :
    (resolve o b s).ea = (resolve o b' s).ea ∧ (resolve o b s).state = (resolve o b' s).state := by
  cases o <;> exact ⟨rfl, rfl⟩

/-- The extra cycles of an address are 0 or 1. -/
theorem resolve_extra_le (o : Operand) (b : Bool) (s : State) : (resolve o b s).extra ≤ 1 := by
  cases o <;> simp only [resolve, pageExtra] <;> (try split) <;> simp

@[simp] theorem operandByte_cpu (o : Operand) (r : Resolved) : (operandByte o r).2.cpu = r.state.cpu := by
  cases o <;> simp [operandByte]

@[simp] theorem operandByte_bus (o : Operand) (r : Resolved) : (operandByte o r).2.bus = r.state.bus := by
  cases o <;> simp [operandByte]

@[simp] theorem operandByte_cart (o : Operand) (r : Resolved) :
    (operandByte o r).2.cart = r.state.cart := by
  cases o <;> simp [operandByte]

@[simp] theorem operandByte_launch (o : Operand) (r : Resolved) :
    (operandByte o r).2.launch = r.state.launch := by
  cases o <;> simp [operandByte]

/-! ### Fetching -/

@[simp] theorem fetchByte_cpu (s : State) :
    (fetchByte s).2.cpu = { s.cpu with pc := s.cpu.pc + 1#16 } := by
  simp [fetchByte]

@[simp] theorem fetchByte_bus (s : State) : (fetchByte s).2.bus = s.bus := by
  simp [fetchByte]

@[simp] theorem fetchByte_launch (s : State) : (fetchByte s).2.launch = s.launch := by
  simp [fetchByte]

/-- Fetching `k` bytes moves PC by `k`. -/
theorem fetchBytes_cpu (k : Nat) (s : State) :
    (fetchBytes k s).2.cpu = { s.cpu with pc := s.cpu.pc + BitVec.ofNat 16 k } := by
  induction k generalizing s with
  | zero => simp [fetchBytes]
  | succ k ih =>
    simp only [fetchBytes, ih, fetchByte_cpu, BitVec.add_assoc]
    congr 2
    rw [Nat.add_comm, BitVec.ofNat_add]

@[simp] theorem fetchBytes_bus (k : Nat) (s : State) : (fetchBytes k s).2.bus = s.bus := by
  induction k generalizing s with
  | zero => rfl
  | succ k ih => simp [fetchBytes, ih]

@[simp] theorem fetchBytes_launch (k : Nat) (s : State) : (fetchBytes k s).2.launch = s.launch := by
  induction k generalizing s with
  | zero => rfl
  | succ k ih => simp [fetchBytes, ih]

/-- As many bytes are fetched as asked for. -/
@[simp] theorem fetchBytes_length (k : Nat) (s : State) : (fetchBytes k s).1.length = k := by
  induction k generalizing s with
  | zero => rfl
  | succ k ih => simp [fetchBytes, ih]

/-! ### Reset -/

/-- The reset state is the power-on of the reset launch with nothing listed. -/
theorem powerOn_reset :
    powerOn Launch.atReset Cartridge.atReset InputDevice.atReset ⟨[], [], [], []⟩ = State.reset := by
  rfl

end Sys2Proof.Machine
end

