-- ==== Sys2Proof/Laws/Classes.lean ====
section
/-! SUPPORT. What the operand access classes can do (R102): each answers a next state, given as one record:
the operand's bus accesses, the CPU's new registers, `next`. -/

namespace Sys2Proof.Machine

/-- The Read class, for a register effect that leaves `cycl` alone. -/
theorem readClass_eq (o : Operand) (p : Bool) (n : Nat) (f : Byte → Cpu → Cpu) (s : State)
    (hf : ∀ m, (f m s.cpu).cycl = s.cpu.cycl) :
    readClass o p n f s = .next { (operandByte o (resolve o p s)).2 with
      cpu := { f (operandByte o (resolve o p s)).1 s.cpu with
        next := s.cpu.cycl + n + (resolve o p s).extra } } := by
  simp only [readClass, State.busyFor, State.mapCpu, operandByte_cpu, resolve_cpu, hf, Nat.add_assoc]

/-- The Write class. -/
theorem writeClass_eq (o : Operand) (n : Nat) (g : Addr → Cpu → Byte) (s : State) :
    writeClass o n g s = .next
      { busWrite (resolve o false s).ea (g (resolve o false s).ea s.cpu) (resolve o false s).state with
        cpu := { s.cpu with next := s.cpu.cycl + n } } := by
  simp only [writeClass, State.busyFor, State.mapCpu, resolve_cpu, busWrite_cpu]

/-- The Read-modify-write class, for a register effect that leaves `cycl` alone. -/
theorem modifyClass_eq (o : Operand) (n : Nat) (g : Byte → Cpu → Byte) (f : Byte → Byte → Cpu → Cpu)
    (s : State) (hf : ∀ m r, (f m r s.cpu).cycl = s.cpu.cycl) :
    modifyClass o n g f s = .next
      { busWrite (resolve o false s).ea
          (g (busRead (resolve o false s).ea (resolve o false s).state).1 s.cpu)
          (busRead (resolve o false s).ea (resolve o false s).state).2 with
        cpu := { f (busRead (resolve o false s).ea (resolve o false s).state).1
            (g (busRead (resolve o false s).ea (resolve o false s).state).1 s.cpu) s.cpu with
          next := s.cpu.cycl + n } } := by
  simp only [modifyClass, State.busyFor, State.mapCpu, resolve_cpu, busRead_cpu, busWrite_cpu, hf]

/-- The Implied and Accumulator classes, for a register effect that leaves `cycl` alone. -/
theorem impliedClass_eq (n : Nat) (f : Cpu → Cpu) (s : State) (hf : (f s.cpu).cycl = s.cpu.cycl) :
    impliedClass n f s = .next { s with cpu := { f s.cpu with next := s.cpu.cycl + n } } := by
  simp only [impliedClass, State.busyFor, State.mapCpu, hf]

/-- `unstable` under each policy. -/
theorem unstable_nmos {op : Byte} {s : State} {run : Result} (h : s.launch.unstablePolicy = .nmos) :
    unstable op s run = run := by
  simp only [unstable, h]

theorem unstable_refuse {op : Byte} {s : State} {run : Result}
    (h : s.launch.unstablePolicy = .refuse) : unstable op s run = .refused (.unstableOpcode op) := by
  simp only [unstable, h]

end Sys2Proof.Machine
end

