-- ==== Sys2Proof/Laws/Decode.lean ====
section
/-! SUPPORT. The opcode map is total: its 16 lines have 16 cells each. -/

namespace Sys2Proof.Laws

/-- The map has a line for every high digit, and every line a cell for every low digit (R73, R80). -/
theorem opcodeMap_total : opcodeMap.length = 16 ∧ ∀ line ∈ opcodeMap, line.length = 16 := by
  refine ⟨rfl, ?_⟩
  simp only [opcodeMap, List.cons_append, List.nil_append, List.forall_mem_cons]
  exact ⟨rfl, rfl, rfl, rfl, rfl, rfl, rfl, rfl, rfl, rfl, rfl, rfl, rfl, rfl, rfl, rfl, by simp⟩

end Sys2Proof.Laws
end

