-- ==== Sys2Proof/Laws/Memory.lean ====
section
/-! SUPPORT. The laws of the sparse memories: reading after writing, the canonical form kept by every
write, and equal reads for equal memories. -/

namespace Sys2Proof.Machine

/-- Another address reads as before. -/
theorem Memory.get_put_of_ne (m : Memory) {a x : Nat} (b : Byte) (h : x ≠ a) :
    (m.put a b).get x = m.get x := by
  induction m with
  | nil => by_cases hb : b = Memory.unlisted <;> simp [Memory.put, Memory.get, hb, Ne.symm h]
  | cons c rest ih =>
    simp only [Memory.put]
    split
    · simp only [Memory.get, ih]
    · split
      · rename_i hc
        split <;> simp [Memory.get, hc, Ne.symm h]
      · split <;> simp [Memory.get, Ne.symm h]

/-- Below its first address a canonical memory reads as unlisted. -/
theorem Memory.get_of_wfFrom (m : Memory) {low x : Nat} (h : m.wfFrom low = true) (hx : x < low) :
    m.get x = Memory.unlisted := by
  induction m generalizing low with
  | nil => rfl
  | cons c rest ih =>
    simp only [Memory.wfFrom, Bool.and_eq_true, decide_eq_true_eq] at h
    have hne : c.1 ≠ x := by omega
    simp only [Memory.get, hne, if_false]
    exact ih h.2 (by omega)

/-- The written address reads as the byte written. -/
theorem Memory.get_put_same (m : Memory) {low : Nat} (h : m.wfFrom low = true) (a : Nat) (b : Byte) :
    (m.put a b).get a = b := by
  induction m generalizing low with
  | nil => by_cases hb : b = Memory.unlisted <;> simp [Memory.put, Memory.get, hb]
  | cons c rest ih =>
    simp only [Memory.wfFrom, Bool.and_eq_true, decide_eq_true_eq] at h
    simp only [Memory.put]
    split
    · rename_i hc
      have hne : c.1 ≠ a := by omega
      simp only [Memory.get, hne, if_false]
      exact ih h.2
    · split
      · rename_i hc
        split
        · rename_i hb
          rw [hb]
          exact Memory.get_of_wfFrom rest h.2 (by omega)
        · simp [Memory.get]
      · rename_i hc1 hc2
        split
        · rename_i hb
          rw [hb]
          simp only [Memory.get, hc2, if_false]
          exact Memory.get_of_wfFrom rest h.2 (by omega)
        · simp [Memory.get]

/-- A canonical memory stays canonical from a lower bound on. -/
theorem Memory.wfFrom_mono (m : Memory) {low low' : Nat} (h : m.wfFrom low = true) (hl : low' ≤ low) :
    m.wfFrom low' = true := by
  cases m with
  | nil => rfl
  | cons c rest =>
    simp only [Memory.wfFrom, Bool.and_eq_true, decide_eq_true_eq] at h ⊢
    exact ⟨⟨by omega, h.1.2⟩, h.2⟩

/-- A write keeps the canonical form. -/
theorem Memory.wfFrom_put (m : Memory) {low a : Nat} (b : Byte) (h : m.wfFrom low = true)
    (ha : low ≤ a) : (m.put a b).wfFrom low = true := by
  induction m generalizing low with
  | nil => by_cases hb : b = Memory.unlisted <;> simp [Memory.put, Memory.wfFrom, hb, ha]
  | cons c rest ih =>
    have h0 := h
    simp only [Memory.wfFrom, Bool.and_eq_true, decide_eq_true_eq] at h
    simp only [Memory.put]
    split
    · rename_i hc
      simp only [Memory.wfFrom, Bool.and_eq_true, decide_eq_true_eq]
      exact ⟨h.1, ih h.2 (by omega)⟩
    · split
      · rename_i hc
        split
        · exact Memory.wfFrom_mono rest h.2 (by omega)
        · rename_i hb
          simp only [Memory.wfFrom, Bool.and_eq_true, decide_eq_true_eq]
          exact ⟨⟨ha, hb⟩, hc ▸ h.2⟩
      · split
        · exact h0
        · rename_i hb
          simp only [Memory.wfFrom, Bool.and_eq_true, decide_eq_true_eq]
          exact ⟨⟨ha, hb⟩, ⟨by omega, h.1.2⟩, h.2⟩

/-- A write keeps the canonical form of a whole memory. -/
theorem Memory.wf_put (m : Memory) (a : Nat) (b : Byte) (h : m.wf = true) : (m.put a b).wf = true :=
  m.wfFrom_put b h (Nat.zero_le a)

/-- The written address reads as the byte written, in a canonical memory. -/
theorem Memory.get_put (m : Memory) (h : m.wf = true) (a x : Nat) (b : Byte) :
    (m.put a b).get x = if x = a then b else m.get x := by
  split
  · rename_i hx
    rw [hx, m.get_put_same h]
  · rename_i hx
    exact m.get_put_of_ne b hx

/-- A write inside a bound keeps the memory inside it. -/
theorem Memory.below_put (m : Memory) {a bound : Nat} (b : Byte) (h : m.below bound = true)
    (ha : a < bound) : (m.put a b).below bound = true := by
  induction m with
  | nil => by_cases hb : b = Memory.unlisted <;> simp [Memory.put, Memory.below, hb, ha]
  | cons c rest ih =>
    simp only [Memory.below, List.all_cons, Bool.and_eq_true, decide_eq_true_eq] at h ih
    simp only [Memory.put]
    split
    · simp only [Memory.below, List.all_cons, Bool.and_eq_true, decide_eq_true_eq]
      exact ⟨h.1, ih h.2⟩
    · split <;> split <;>
        simp only [Memory.below, List.all_cons, Bool.and_eq_true, decide_eq_true_eq]
      · exact h.2
      · exact ⟨ha, h.2⟩
      · exact h
      · exact ⟨ha, h⟩

/-- A write of a byte inside a mask keeps the memory inside it. -/
theorem Memory.within_put (m : Memory) {a : Nat} {b keep : Byte} (h : m.within keep = true)
    (hb : b &&& keep = b) : (m.put a b).within keep = true := by
  induction m with
  | nil => by_cases hu : b = Memory.unlisted <;> simp_all [Memory.put, Memory.within]
  | cons c rest ih =>
    simp only [Memory.within, List.all_cons, Bool.and_eq_true, beq_iff_eq] at h ih
    simp only [Memory.put]
    split
    · simp only [Memory.within, List.all_cons, Bool.and_eq_true, beq_iff_eq]
      exact ⟨h.1, ih h.2⟩
    · split <;> split <;>
        simp only [Memory.within, List.all_cons, Bool.and_eq_true, beq_iff_eq]
      · exact h.2
      · exact ⟨hb, h.2⟩
      · exact h
      · exact ⟨hb, h⟩

/-- A masked byte is inside its mask. -/
theorem and_mask_within (v keep : Byte) : (v &&& keep) &&& keep = v &&& keep := by
  rw [BitVec.and_assoc, BitVec.and_self]

/-- Canonical memories that read the same everywhere are the same data. -/
theorem Memory.ext_of_wfFrom (m n : Memory) {low : Nat} (hm : m.wfFrom low = true)
    (hn : n.wfFrom low = true) (h : ∀ x, m.get x = n.get x) : m = n := by
  induction m generalizing n low with
  | nil =>
    cases n with
    | nil => rfl
    | cons d rest =>
      simp only [Memory.wfFrom, Bool.and_eq_true, decide_eq_true_eq] at hn
      have := h d.1
      simp [Memory.get] at this
      exact absurd this.symm hn.1.2
  | cons c rest ih =>
    simp only [Memory.wfFrom, Bool.and_eq_true, decide_eq_true_eq] at hm
    cases n with
    | nil =>
      have := h c.1
      simp [Memory.get] at this
      exact absurd this hm.1.2
    | cons d rest' =>
      simp only [Memory.wfFrom, Bool.and_eq_true, decide_eq_true_eq] at hn
      have hc := h c.1
      have hd := h d.1
      simp only [Memory.get, if_true] at hc hd
      have hcd : c.1 = d.1 := by
        rcases Nat.lt_trichotomy c.1 d.1 with hlt | heq | hgt
        · have hne : d.1 ≠ c.1 := by omega
          rw [if_neg hne, Memory.get_of_wfFrom rest' hn.2 (by omega)] at hc
          exact absurd hc hm.1.2
        · exact heq
        · have hne : c.1 ≠ d.1 := by omega
          rw [if_neg hne, Memory.get_of_wfFrom rest hm.2 (by omega)] at hd
          exact absurd hd.symm hn.1.2
      have hce : c = d := by
        rw [if_pos hcd.symm] at hc
        exact Prod.ext hcd hc
      subst hce
      congr 1
      refine ih rest' hm.2 hn.2 fun x => ?_
      by_cases hx : c.1 = x
      · rw [Memory.get_of_wfFrom rest hm.2 (by omega), Memory.get_of_wfFrom rest' hn.2 (by omega)]
      · have := h x
        simpa only [Memory.get, hx, if_false] using this

/-- The cells a launch lists give a canonical memory. -/
theorem Memory.ofCells_wf (keep : Byte) (cells : List Host.Cell) :
    (Memory.ofCells keep cells).wf = true := by
  have key : ∀ (cs : List Host.Cell) (m : Memory), m.wf = true →
      (cs.foldl (fun m c => m.put c.1 (c.2 &&& keep)) m).wf = true := by
    intro cs
    induction cs with
    | nil => exact fun _ hm => hm
    | cons c rest ih => exact fun m hm => ih _ (m.wf_put _ _ hm)
  exact key cells [] rfl

/-- The masked cells a launch lists are inside the mask. -/
theorem Memory.ofCells_within (keep : Byte) (cells : List Host.Cell) :
    (Memory.ofCells keep cells).within keep = true := by
  have key : ∀ (cs : List Host.Cell) (m : Memory), m.within keep = true →
      (cs.foldl (fun m c => m.put c.1 (c.2 &&& keep)) m).within keep = true := by
    intro cs
    induction cs with
    | nil => exact fun _ hm => hm
    | cons c rest ih => exact fun m hm => ih _ (m.within_put hm (and_mask_within _ _))
  exact key cells [] rfl

/-- The cells a launch lists below a bound give a memory below it. -/
theorem Memory.ofCells_below (keep : Byte) (bound : Nat) (cells : List Host.Cell)
    (h : ∀ c ∈ cells, c.1 < bound) : (Memory.ofCells keep cells).below bound = true := by
  have key : ∀ (cs : List Host.Cell) (m : Memory), (∀ c ∈ cs, c.1 < bound) → m.below bound = true →
      (cs.foldl (fun m c => m.put c.1 (c.2 &&& keep)) m).below bound = true := by
    intro cs
    induction cs with
    | nil => exact fun _ _ hm => hm
    | cons c rest ih =>
      exact fun m hc hm => ih _ (fun d hd => hc d (List.mem_cons_of_mem _ hd))
        (m.below_put _ hm (hc c (List.mem_cons_self ..)))
  exact key cells [] h rfl

/-- The reset memories are canonical. -/
theorem reset_memories_wf : State.reset.bus.ram.wf = true ∧ State.reset.ppu.oam.wf = true ∧
    State.reset.ppu.nt.wf = true ∧ State.reset.ppu.pal.wf = true ∧
    State.reset.cart.prg.wf = true ∧ State.reset.cart.chr.wf = true := by decide

/-- The RAM cell of an address is inside RAM. -/
theorem ramCell_lt (a : Addr) : ramCell a < 2048 := Nat.mod_lt _ (by decide)

/-- The nametable cell of an address is inside nametable RAM. -/
theorem ntCell_lt (m : Mirroring) (a : Addr) : ntCell m a < 4096 := by
  have h1 : a.toNat % 1024 < 1024 := Nat.mod_lt _ (by decide)
  have h2 : a.toNat / 1024 % 4 < 4 := Nat.mod_lt _ (by decide)
  cases m <;> simp only [ntCell, ntBank] <;> omega

/-- The palette cell of an address is inside palette RAM. -/
theorem palIndex_lt (a : Addr) : palIndex a < 32 := by
  have h : a.toNat % 32 < 32 := Nat.mod_lt _ (by decide)
  simp only [palIndex]
  split <;> omega

end Sys2Proof.Machine
end

