-- ==== Sys2Proof/Laws/PerInstr.lean ====
section
/-! SUPPORT. Facts stated of every instruction, one lemma a constructor. -/

namespace Sys2Proof.Laws.RowLegal

/-- The instruction's row of the opcode table is legal: its operand bytes are as many as its mode has, its
base cycle count is 2 to 8, only an indexed mode is page-sensitive, its mnemonic has three letters. -/
def Statement (i : Instr) : Prop := i.wellFormed = true

/-- Whether the closed parts of a row with `k` operand bytes are legal. -/
def partsLegal (mn : String) (m : Mode) (cycles : Nat) (pageCross : Bool) (k : Nat) : Bool :=
  k + 1 == m.length && (decide (2 ≤ cycles) && decide (cycles ≤ 8)) &&
    (!pageCross || m == .abx || m == .aby || m == .izy) && mn.length == 3

/-- A row is legal when its closed parts are. -/
theorem of_row {i : Instr} {op : Byte} {mn : String} {m : Mode} {cycles : Nat} {pageCross : Bool}
    {ops : List Byte} (k : Nat) (h : i.row = ⟨op, mn, m, cycles, pageCross, ops⟩) (hk : ops.length = k)
    (hp : partsLegal mn m cycles pageCross k = true) : Statement i := by
  subst hk
  show i.row.wellFormed = true
  rw [h]
  exact hp

theorem ldaIzx (z : Byte) : Statement (.ldaIzx z) := of_row 1 rfl rfl (by decide)
theorem ldaZp (z : Byte) : Statement (.ldaZp z) := of_row 1 rfl rfl (by decide)
theorem ldaImm (i : Byte) : Statement (.ldaImm i) := of_row 1 rfl rfl (by decide)
theorem ldaAbs (a : Addr) : Statement (.ldaAbs a) := of_row 2 rfl rfl (by decide)
theorem ldaIzy (z : Byte) : Statement (.ldaIzy z) := of_row 1 rfl rfl (by decide)
theorem ldaZpx (z : Byte) : Statement (.ldaZpx z) := of_row 1 rfl rfl (by decide)
theorem ldaAby (a : Addr) : Statement (.ldaAby a) := of_row 2 rfl rfl (by decide)
theorem ldaAbx (a : Addr) : Statement (.ldaAbx a) := of_row 2 rfl rfl (by decide)
theorem ldxImm (i : Byte) : Statement (.ldxImm i) := of_row 1 rfl rfl (by decide)
theorem ldxZp (z : Byte) : Statement (.ldxZp z) := of_row 1 rfl rfl (by decide)
theorem ldxAbs (a : Addr) : Statement (.ldxAbs a) := of_row 2 rfl rfl (by decide)
theorem ldxZpy (z : Byte) : Statement (.ldxZpy z) := of_row 1 rfl rfl (by decide)
theorem ldxAby (a : Addr) : Statement (.ldxAby a) := of_row 2 rfl rfl (by decide)
theorem ldyImm (i : Byte) : Statement (.ldyImm i) := of_row 1 rfl rfl (by decide)
theorem ldyZp (z : Byte) : Statement (.ldyZp z) := of_row 1 rfl rfl (by decide)
theorem ldyAbs (a : Addr) : Statement (.ldyAbs a) := of_row 2 rfl rfl (by decide)
theorem ldyZpx (z : Byte) : Statement (.ldyZpx z) := of_row 1 rfl rfl (by decide)
theorem ldyAbx (a : Addr) : Statement (.ldyAbx a) := of_row 2 rfl rfl (by decide)
theorem staIzx (z : Byte) : Statement (.staIzx z) := of_row 1 rfl rfl (by decide)
theorem staZp (z : Byte) : Statement (.staZp z) := of_row 1 rfl rfl (by decide)
theorem staAbs (a : Addr) : Statement (.staAbs a) := of_row 2 rfl rfl (by decide)
theorem staIzy (z : Byte) : Statement (.staIzy z) := of_row 1 rfl rfl (by decide)
theorem staZpx (z : Byte) : Statement (.staZpx z) := of_row 1 rfl rfl (by decide)
theorem staAby (a : Addr) : Statement (.staAby a) := of_row 2 rfl rfl (by decide)
theorem staAbx (a : Addr) : Statement (.staAbx a) := of_row 2 rfl rfl (by decide)
theorem stxZp (z : Byte) : Statement (.stxZp z) := of_row 1 rfl rfl (by decide)
theorem stxAbs (a : Addr) : Statement (.stxAbs a) := of_row 2 rfl rfl (by decide)
theorem stxZpy (z : Byte) : Statement (.stxZpy z) := of_row 1 rfl rfl (by decide)
theorem styZp (z : Byte) : Statement (.styZp z) := of_row 1 rfl rfl (by decide)
theorem styAbs (a : Addr) : Statement (.styAbs a) := of_row 2 rfl rfl (by decide)
theorem styZpx (z : Byte) : Statement (.styZpx z) := of_row 1 rfl rfl (by decide)
theorem tax : Statement .tax := of_row 0 rfl rfl (by decide)
theorem tay : Statement .tay := of_row 0 rfl rfl (by decide)
theorem txa : Statement .txa := of_row 0 rfl rfl (by decide)
theorem tya : Statement .tya := of_row 0 rfl rfl (by decide)
theorem tsx : Statement .tsx := of_row 0 rfl rfl (by decide)
theorem txs : Statement .txs := of_row 0 rfl rfl (by decide)
theorem pha : Statement .pha := of_row 0 rfl rfl (by decide)
theorem php : Statement .php := of_row 0 rfl rfl (by decide)
theorem pla : Statement .pla := of_row 0 rfl rfl (by decide)
theorem plp : Statement .plp := of_row 0 rfl rfl (by decide)
theorem adcIzx (z : Byte) : Statement (.adcIzx z) := of_row 1 rfl rfl (by decide)
theorem adcZp (z : Byte) : Statement (.adcZp z) := of_row 1 rfl rfl (by decide)
theorem adcImm (i : Byte) : Statement (.adcImm i) := of_row 1 rfl rfl (by decide)
theorem adcAbs (a : Addr) : Statement (.adcAbs a) := of_row 2 rfl rfl (by decide)
theorem adcIzy (z : Byte) : Statement (.adcIzy z) := of_row 1 rfl rfl (by decide)
theorem adcZpx (z : Byte) : Statement (.adcZpx z) := of_row 1 rfl rfl (by decide)
theorem adcAby (a : Addr) : Statement (.adcAby a) := of_row 2 rfl rfl (by decide)
theorem adcAbx (a : Addr) : Statement (.adcAbx a) := of_row 2 rfl rfl (by decide)
theorem sbcIzx (z : Byte) : Statement (.sbcIzx z) := of_row 1 rfl rfl (by decide)
theorem sbcZp (z : Byte) : Statement (.sbcZp z) := of_row 1 rfl rfl (by decide)
theorem sbcImm (i : Byte) : Statement (.sbcImm i) := of_row 1 rfl rfl (by decide)
theorem sbcAbs (a : Addr) : Statement (.sbcAbs a) := of_row 2 rfl rfl (by decide)
theorem sbcIzy (z : Byte) : Statement (.sbcIzy z) := of_row 1 rfl rfl (by decide)
theorem sbcZpx (z : Byte) : Statement (.sbcZpx z) := of_row 1 rfl rfl (by decide)
theorem sbcAby (a : Addr) : Statement (.sbcAby a) := of_row 2 rfl rfl (by decide)
theorem sbcAbx (a : Addr) : Statement (.sbcAbx a) := of_row 2 rfl rfl (by decide)
theorem andIzx (z : Byte) : Statement (.andIzx z) := of_row 1 rfl rfl (by decide)
theorem andZp (z : Byte) : Statement (.andZp z) := of_row 1 rfl rfl (by decide)
theorem andImm (i : Byte) : Statement (.andImm i) := of_row 1 rfl rfl (by decide)
theorem andAbs (a : Addr) : Statement (.andAbs a) := of_row 2 rfl rfl (by decide)
theorem andIzy (z : Byte) : Statement (.andIzy z) := of_row 1 rfl rfl (by decide)
theorem andZpx (z : Byte) : Statement (.andZpx z) := of_row 1 rfl rfl (by decide)
theorem andAby (a : Addr) : Statement (.andAby a) := of_row 2 rfl rfl (by decide)
theorem andAbx (a : Addr) : Statement (.andAbx a) := of_row 2 rfl rfl (by decide)
theorem oraIzx (z : Byte) : Statement (.oraIzx z) := of_row 1 rfl rfl (by decide)
theorem oraZp (z : Byte) : Statement (.oraZp z) := of_row 1 rfl rfl (by decide)
theorem oraImm (i : Byte) : Statement (.oraImm i) := of_row 1 rfl rfl (by decide)
theorem oraAbs (a : Addr) : Statement (.oraAbs a) := of_row 2 rfl rfl (by decide)
theorem oraIzy (z : Byte) : Statement (.oraIzy z) := of_row 1 rfl rfl (by decide)
theorem oraZpx (z : Byte) : Statement (.oraZpx z) := of_row 1 rfl rfl (by decide)
theorem oraAby (a : Addr) : Statement (.oraAby a) := of_row 2 rfl rfl (by decide)
theorem oraAbx (a : Addr) : Statement (.oraAbx a) := of_row 2 rfl rfl (by decide)
theorem eorIzx (z : Byte) : Statement (.eorIzx z) := of_row 1 rfl rfl (by decide)
theorem eorZp (z : Byte) : Statement (.eorZp z) := of_row 1 rfl rfl (by decide)
theorem eorImm (i : Byte) : Statement (.eorImm i) := of_row 1 rfl rfl (by decide)
theorem eorAbs (a : Addr) : Statement (.eorAbs a) := of_row 2 rfl rfl (by decide)
theorem eorIzy (z : Byte) : Statement (.eorIzy z) := of_row 1 rfl rfl (by decide)
theorem eorZpx (z : Byte) : Statement (.eorZpx z) := of_row 1 rfl rfl (by decide)
theorem eorAby (a : Addr) : Statement (.eorAby a) := of_row 2 rfl rfl (by decide)
theorem eorAbx (a : Addr) : Statement (.eorAbx a) := of_row 2 rfl rfl (by decide)
theorem bitZp (z : Byte) : Statement (.bitZp z) := of_row 1 rfl rfl (by decide)
theorem bitAbs (a : Addr) : Statement (.bitAbs a) := of_row 2 rfl rfl (by decide)
theorem cmpIzx (z : Byte) : Statement (.cmpIzx z) := of_row 1 rfl rfl (by decide)
theorem cmpZp (z : Byte) : Statement (.cmpZp z) := of_row 1 rfl rfl (by decide)
theorem cmpImm (i : Byte) : Statement (.cmpImm i) := of_row 1 rfl rfl (by decide)
theorem cmpAbs (a : Addr) : Statement (.cmpAbs a) := of_row 2 rfl rfl (by decide)
theorem cmpIzy (z : Byte) : Statement (.cmpIzy z) := of_row 1 rfl rfl (by decide)
theorem cmpZpx (z : Byte) : Statement (.cmpZpx z) := of_row 1 rfl rfl (by decide)
theorem cmpAby (a : Addr) : Statement (.cmpAby a) := of_row 2 rfl rfl (by decide)
theorem cmpAbx (a : Addr) : Statement (.cmpAbx a) := of_row 2 rfl rfl (by decide)
theorem cpxImm (i : Byte) : Statement (.cpxImm i) := of_row 1 rfl rfl (by decide)
theorem cpxZp (z : Byte) : Statement (.cpxZp z) := of_row 1 rfl rfl (by decide)
theorem cpxAbs (a : Addr) : Statement (.cpxAbs a) := of_row 2 rfl rfl (by decide)
theorem cpyImm (i : Byte) : Statement (.cpyImm i) := of_row 1 rfl rfl (by decide)
theorem cpyZp (z : Byte) : Statement (.cpyZp z) := of_row 1 rfl rfl (by decide)
theorem cpyAbs (a : Addr) : Statement (.cpyAbs a) := of_row 2 rfl rfl (by decide)
theorem incZp (z : Byte) : Statement (.incZp z) := of_row 1 rfl rfl (by decide)
theorem incAbs (a : Addr) : Statement (.incAbs a) := of_row 2 rfl rfl (by decide)
theorem incZpx (z : Byte) : Statement (.incZpx z) := of_row 1 rfl rfl (by decide)
theorem incAbx (a : Addr) : Statement (.incAbx a) := of_row 2 rfl rfl (by decide)
theorem decZp (z : Byte) : Statement (.decZp z) := of_row 1 rfl rfl (by decide)
theorem decAbs (a : Addr) : Statement (.decAbs a) := of_row 2 rfl rfl (by decide)
theorem decZpx (z : Byte) : Statement (.decZpx z) := of_row 1 rfl rfl (by decide)
theorem decAbx (a : Addr) : Statement (.decAbx a) := of_row 2 rfl rfl (by decide)
theorem inx : Statement .inx := of_row 0 rfl rfl (by decide)
theorem iny : Statement .iny := of_row 0 rfl rfl (by decide)
theorem dex : Statement .dex := of_row 0 rfl rfl (by decide)
theorem dey : Statement .dey := of_row 0 rfl rfl (by decide)
theorem aslZp (z : Byte) : Statement (.aslZp z) := of_row 1 rfl rfl (by decide)
theorem aslAcc : Statement .aslAcc := of_row 0 rfl rfl (by decide)
theorem aslAbs (a : Addr) : Statement (.aslAbs a) := of_row 2 rfl rfl (by decide)
theorem aslZpx (z : Byte) : Statement (.aslZpx z) := of_row 1 rfl rfl (by decide)
theorem aslAbx (a : Addr) : Statement (.aslAbx a) := of_row 2 rfl rfl (by decide)
theorem lsrZp (z : Byte) : Statement (.lsrZp z) := of_row 1 rfl rfl (by decide)
theorem lsrAcc : Statement .lsrAcc := of_row 0 rfl rfl (by decide)
theorem lsrAbs (a : Addr) : Statement (.lsrAbs a) := of_row 2 rfl rfl (by decide)
theorem lsrZpx (z : Byte) : Statement (.lsrZpx z) := of_row 1 rfl rfl (by decide)
theorem lsrAbx (a : Addr) : Statement (.lsrAbx a) := of_row 2 rfl rfl (by decide)
theorem rolZp (z : Byte) : Statement (.rolZp z) := of_row 1 rfl rfl (by decide)
theorem rolAcc : Statement .rolAcc := of_row 0 rfl rfl (by decide)
theorem rolAbs (a : Addr) : Statement (.rolAbs a) := of_row 2 rfl rfl (by decide)
theorem rolZpx (z : Byte) : Statement (.rolZpx z) := of_row 1 rfl rfl (by decide)
theorem rolAbx (a : Addr) : Statement (.rolAbx a) := of_row 2 rfl rfl (by decide)
theorem rorZp (z : Byte) : Statement (.rorZp z) := of_row 1 rfl rfl (by decide)
theorem rorAcc : Statement .rorAcc := of_row 0 rfl rfl (by decide)
theorem rorAbs (a : Addr) : Statement (.rorAbs a) := of_row 2 rfl rfl (by decide)
theorem rorZpx (z : Byte) : Statement (.rorZpx z) := of_row 1 rfl rfl (by decide)
theorem rorAbx (a : Addr) : Statement (.rorAbx a) := of_row 2 rfl rfl (by decide)
theorem bpl (o : Byte) : Statement (.bpl o) := of_row 1 rfl rfl (by decide)
theorem bmi (o : Byte) : Statement (.bmi o) := of_row 1 rfl rfl (by decide)
theorem bvc (o : Byte) : Statement (.bvc o) := of_row 1 rfl rfl (by decide)
theorem bvs (o : Byte) : Statement (.bvs o) := of_row 1 rfl rfl (by decide)
theorem bcc (o : Byte) : Statement (.bcc o) := of_row 1 rfl rfl (by decide)
theorem bcs (o : Byte) : Statement (.bcs o) := of_row 1 rfl rfl (by decide)
theorem bne (o : Byte) : Statement (.bne o) := of_row 1 rfl rfl (by decide)
theorem beq (o : Byte) : Statement (.beq o) := of_row 1 rfl rfl (by decide)
theorem jmpAbs (a : Addr) : Statement (.jmpAbs a) := of_row 2 rfl rfl (by decide)
theorem jmpInd (a : Addr) : Statement (.jmpInd a) := of_row 2 rfl rfl (by decide)
theorem jsrAbs (a : Addr) : Statement (.jsrAbs a) := of_row 2 rfl rfl (by decide)
theorem rts : Statement .rts := of_row 0 rfl rfl (by decide)
theorem brk : Statement .brk := of_row 0 rfl rfl (by decide)
theorem rti : Statement .rti := of_row 0 rfl rfl (by decide)
theorem clc : Statement .clc := of_row 0 rfl rfl (by decide)
theorem sec : Statement .sec := of_row 0 rfl rfl (by decide)
theorem cli : Statement .cli := of_row 0 rfl rfl (by decide)
theorem sei : Statement .sei := of_row 0 rfl rfl (by decide)
theorem clv : Statement .clv := of_row 0 rfl rfl (by decide)
theorem cld : Statement .cld := of_row 0 rfl rfl (by decide)
theorem sed : Statement .sed := of_row 0 rfl rfl (by decide)
theorem nop : Statement .nop := of_row 0 rfl rfl (by decide)
theorem sbcImmEB (i : Byte) : Statement (.sbcImmEB i) := of_row 1 rfl rfl (by decide)
theorem nopZp04 (z : Byte) : Statement (.nopZp04 z) := of_row 1 rfl rfl (by decide)
theorem nopAbs (a : Addr) : Statement (.nopAbs a) := of_row 2 rfl rfl (by decide)
theorem nopZpx14 (z : Byte) : Statement (.nopZpx14 z) := of_row 1 rfl rfl (by decide)
theorem nop1A : Statement .nop1A := of_row 0 rfl rfl (by decide)
theorem nopAbx1C (a : Addr) : Statement (.nopAbx1C a) := of_row 2 rfl rfl (by decide)
theorem nopZpx34 (z : Byte) : Statement (.nopZpx34 z) := of_row 1 rfl rfl (by decide)
theorem nop3A : Statement .nop3A := of_row 0 rfl rfl (by decide)
theorem nopAbx3C (a : Addr) : Statement (.nopAbx3C a) := of_row 2 rfl rfl (by decide)
theorem nopZp44 (z : Byte) : Statement (.nopZp44 z) := of_row 1 rfl rfl (by decide)
theorem nopZpx54 (z : Byte) : Statement (.nopZpx54 z) := of_row 1 rfl rfl (by decide)
theorem nop5A : Statement .nop5A := of_row 0 rfl rfl (by decide)
theorem nopAbx5C (a : Addr) : Statement (.nopAbx5C a) := of_row 2 rfl rfl (by decide)
theorem nopZp64 (z : Byte) : Statement (.nopZp64 z) := of_row 1 rfl rfl (by decide)
theorem nopZpx74 (z : Byte) : Statement (.nopZpx74 z) := of_row 1 rfl rfl (by decide)
theorem nop7A : Statement .nop7A := of_row 0 rfl rfl (by decide)
theorem nopAbx7C (a : Addr) : Statement (.nopAbx7C a) := of_row 2 rfl rfl (by decide)
theorem nopImm80 (i : Byte) : Statement (.nopImm80 i) := of_row 1 rfl rfl (by decide)
theorem nopImm82 (i : Byte) : Statement (.nopImm82 i) := of_row 1 rfl rfl (by decide)
theorem nopImm89 (i : Byte) : Statement (.nopImm89 i) := of_row 1 rfl rfl (by decide)
theorem nopImmC2 (i : Byte) : Statement (.nopImmC2 i) := of_row 1 rfl rfl (by decide)
theorem nopZpxD4 (z : Byte) : Statement (.nopZpxD4 z) := of_row 1 rfl rfl (by decide)
theorem nopDA : Statement .nopDA := of_row 0 rfl rfl (by decide)
theorem nopAbxDC (a : Addr) : Statement (.nopAbxDC a) := of_row 2 rfl rfl (by decide)
theorem nopImmE2 (i : Byte) : Statement (.nopImmE2 i) := of_row 1 rfl rfl (by decide)
theorem nopZpxF4 (z : Byte) : Statement (.nopZpxF4 z) := of_row 1 rfl rfl (by decide)
theorem nopFA : Statement .nopFA := of_row 0 rfl rfl (by decide)
theorem nopAbxFC (a : Addr) : Statement (.nopAbxFC a) := of_row 2 rfl rfl (by decide)
theorem sloIzx (z : Byte) : Statement (.sloIzx z) := of_row 1 rfl rfl (by decide)
theorem sloZp (z : Byte) : Statement (.sloZp z) := of_row 1 rfl rfl (by decide)
theorem sloAbs (a : Addr) : Statement (.sloAbs a) := of_row 2 rfl rfl (by decide)
theorem sloIzy (z : Byte) : Statement (.sloIzy z) := of_row 1 rfl rfl (by decide)
theorem sloZpx (z : Byte) : Statement (.sloZpx z) := of_row 1 rfl rfl (by decide)
theorem sloAby (a : Addr) : Statement (.sloAby a) := of_row 2 rfl rfl (by decide)
theorem sloAbx (a : Addr) : Statement (.sloAbx a) := of_row 2 rfl rfl (by decide)
theorem rlaIzx (z : Byte) : Statement (.rlaIzx z) := of_row 1 rfl rfl (by decide)
theorem rlaZp (z : Byte) : Statement (.rlaZp z) := of_row 1 rfl rfl (by decide)
theorem rlaAbs (a : Addr) : Statement (.rlaAbs a) := of_row 2 rfl rfl (by decide)
theorem rlaIzy (z : Byte) : Statement (.rlaIzy z) := of_row 1 rfl rfl (by decide)
theorem rlaZpx (z : Byte) : Statement (.rlaZpx z) := of_row 1 rfl rfl (by decide)
theorem rlaAby (a : Addr) : Statement (.rlaAby a) := of_row 2 rfl rfl (by decide)
theorem rlaAbx (a : Addr) : Statement (.rlaAbx a) := of_row 2 rfl rfl (by decide)
theorem sreIzx (z : Byte) : Statement (.sreIzx z) := of_row 1 rfl rfl (by decide)
theorem sreZp (z : Byte) : Statement (.sreZp z) := of_row 1 rfl rfl (by decide)
theorem sreAbs (a : Addr) : Statement (.sreAbs a) := of_row 2 rfl rfl (by decide)
theorem sreIzy (z : Byte) : Statement (.sreIzy z) := of_row 1 rfl rfl (by decide)
theorem sreZpx (z : Byte) : Statement (.sreZpx z) := of_row 1 rfl rfl (by decide)
theorem sreAby (a : Addr) : Statement (.sreAby a) := of_row 2 rfl rfl (by decide)
theorem sreAbx (a : Addr) : Statement (.sreAbx a) := of_row 2 rfl rfl (by decide)
theorem rraIzx (z : Byte) : Statement (.rraIzx z) := of_row 1 rfl rfl (by decide)
theorem rraZp (z : Byte) : Statement (.rraZp z) := of_row 1 rfl rfl (by decide)
theorem rraAbs (a : Addr) : Statement (.rraAbs a) := of_row 2 rfl rfl (by decide)
theorem rraIzy (z : Byte) : Statement (.rraIzy z) := of_row 1 rfl rfl (by decide)
theorem rraZpx (z : Byte) : Statement (.rraZpx z) := of_row 1 rfl rfl (by decide)
theorem rraAby (a : Addr) : Statement (.rraAby a) := of_row 2 rfl rfl (by decide)
theorem rraAbx (a : Addr) : Statement (.rraAbx a) := of_row 2 rfl rfl (by decide)
theorem dcpIzx (z : Byte) : Statement (.dcpIzx z) := of_row 1 rfl rfl (by decide)
theorem dcpZp (z : Byte) : Statement (.dcpZp z) := of_row 1 rfl rfl (by decide)
theorem dcpAbs (a : Addr) : Statement (.dcpAbs a) := of_row 2 rfl rfl (by decide)
theorem dcpIzy (z : Byte) : Statement (.dcpIzy z) := of_row 1 rfl rfl (by decide)
theorem dcpZpx (z : Byte) : Statement (.dcpZpx z) := of_row 1 rfl rfl (by decide)
theorem dcpAby (a : Addr) : Statement (.dcpAby a) := of_row 2 rfl rfl (by decide)
theorem dcpAbx (a : Addr) : Statement (.dcpAbx a) := of_row 2 rfl rfl (by decide)
theorem isbIzx (z : Byte) : Statement (.isbIzx z) := of_row 1 rfl rfl (by decide)
theorem isbZp (z : Byte) : Statement (.isbZp z) := of_row 1 rfl rfl (by decide)
theorem isbAbs (a : Addr) : Statement (.isbAbs a) := of_row 2 rfl rfl (by decide)
theorem isbIzy (z : Byte) : Statement (.isbIzy z) := of_row 1 rfl rfl (by decide)
theorem isbZpx (z : Byte) : Statement (.isbZpx z) := of_row 1 rfl rfl (by decide)
theorem isbAby (a : Addr) : Statement (.isbAby a) := of_row 2 rfl rfl (by decide)
theorem isbAbx (a : Addr) : Statement (.isbAbx a) := of_row 2 rfl rfl (by decide)
theorem laxIzx (z : Byte) : Statement (.laxIzx z) := of_row 1 rfl rfl (by decide)
theorem laxZp (z : Byte) : Statement (.laxZp z) := of_row 1 rfl rfl (by decide)
theorem laxAbs (a : Addr) : Statement (.laxAbs a) := of_row 2 rfl rfl (by decide)
theorem laxIzy (z : Byte) : Statement (.laxIzy z) := of_row 1 rfl rfl (by decide)
theorem laxZpy (z : Byte) : Statement (.laxZpy z) := of_row 1 rfl rfl (by decide)
theorem laxAby (a : Addr) : Statement (.laxAby a) := of_row 2 rfl rfl (by decide)
theorem saxIzx (z : Byte) : Statement (.saxIzx z) := of_row 1 rfl rfl (by decide)
theorem saxZp (z : Byte) : Statement (.saxZp z) := of_row 1 rfl rfl (by decide)
theorem saxAbs (a : Addr) : Statement (.saxAbs a) := of_row 2 rfl rfl (by decide)
theorem saxZpy (z : Byte) : Statement (.saxZpy z) := of_row 1 rfl rfl (by decide)
theorem aacImm0B (i : Byte) : Statement (.aacImm0B i) := of_row 1 rfl rfl (by decide)
theorem aacImm2B (i : Byte) : Statement (.aacImm2B i) := of_row 1 rfl rfl (by decide)
theorem asrImm (i : Byte) : Statement (.asrImm i) := of_row 1 rfl rfl (by decide)
theorem arrImm (i : Byte) : Statement (.arrImm i) := of_row 1 rfl rfl (by decide)
theorem axsImm (i : Byte) : Statement (.axsImm i) := of_row 1 rfl rfl (by decide)
theorem aneImm (i : Byte) : Statement (.aneImm i) := of_row 1 rfl rfl (by decide)
theorem lxaImm (i : Byte) : Statement (.lxaImm i) := of_row 1 rfl rfl (by decide)
theorem shaIzy (z : Byte) : Statement (.shaIzy z) := of_row 1 rfl rfl (by decide)
theorem shaAby (a : Addr) : Statement (.shaAby a) := of_row 2 rfl rfl (by decide)
theorem shxAby (a : Addr) : Statement (.shxAby a) := of_row 2 rfl rfl (by decide)
theorem shyAbx (a : Addr) : Statement (.shyAbx a) := of_row 2 rfl rfl (by decide)
theorem tasAby (a : Addr) : Statement (.tasAby a) := of_row 2 rfl rfl (by decide)
theorem lasAby (a : Addr) : Statement (.lasAby a) := of_row 2 rfl rfl (by decide)
theorem kil02 : Statement .kil02 := of_row 0 rfl rfl (by decide)
theorem kil12 : Statement .kil12 := of_row 0 rfl rfl (by decide)
theorem kil22 : Statement .kil22 := of_row 0 rfl rfl (by decide)
theorem kil32 : Statement .kil32 := of_row 0 rfl rfl (by decide)
theorem kil42 : Statement .kil42 := of_row 0 rfl rfl (by decide)
theorem kil52 : Statement .kil52 := of_row 0 rfl rfl (by decide)
theorem kil62 : Statement .kil62 := of_row 0 rfl rfl (by decide)
theorem kil72 : Statement .kil72 := of_row 0 rfl rfl (by decide)
theorem kil92 : Statement .kil92 := of_row 0 rfl rfl (by decide)
theorem kilB2 : Statement .kilB2 := of_row 0 rfl rfl (by decide)
theorem kilD2 : Statement .kilD2 := of_row 0 rfl rfl (by decide)
theorem kilF2 : Statement .kilF2 := of_row 0 rfl rfl (by decide)

end Sys2Proof.Laws.RowLegal
end

