-- ==== Sys2Proof/Laws/Pipeline.lean ====
section
/-! SUPPORT. What the parts of a PPU clock can do: the OAM-DMA copy writes OAM and has the side effects of its
256 bus reads; the dot's stages write the PPU only. -/

namespace Sys2Proof.Machine

/-! ### The OAM-DMA copy -/

@[simp] theorem dmaByte_cpu (i : Nat) (s : State) : (dmaByte i s).cpu = s.cpu := by
  simp [dmaByte, State.mapPpu]

@[simp] theorem dmaByte_bus (i : Nat) (s : State) : (dmaByte i s).bus = s.bus := by
  simp [dmaByte, State.mapPpu]

@[simp] theorem dmaByte_cart (i : Nat) (s : State) : (dmaByte i s).cart = s.cart := by
  simp [dmaByte, State.mapPpu]

@[simp] theorem dmaByte_launch (i : Nat) (s : State) : (dmaByte i s).launch = s.launch := by
  simp [dmaByte, State.mapPpu]

/-- The copy leaves the CPU, the bus, the cartridge and the launch alone. -/
theorem dmaBytes_frame (k i : Nat) (s : State) :
    (dmaBytes k i s).cpu = s.cpu ∧ (dmaBytes k i s).bus = s.bus ∧ (dmaBytes k i s).cart = s.cart ∧
      (dmaBytes k i s).launch = s.launch := by
  induction k generalizing i s with
  | zero => exact ⟨rfl, rfl, rfl, rfl⟩
  | succ k ih =>
    obtain ⟨h1, h2, h3, h4⟩ := ih (i + 1) (dmaByte i s)
    simp only [dmaBytes, h1, h2, h3, h4, dmaByte_cpu, dmaByte_bus, dmaByte_cart, dmaByte_launch, and_self]

/-- A drain with a copy waiting: the 256 bytes, then the flag cleared. -/
theorem dmaDrain_copy {s : State} (h : s.bus.oamDmaPpu = true) : dmaDrain s =
    { dmaBytes 256 0 s with bus := { s.bus with oamDmaPpu := false } } := by
  unfold dmaDrain
  rw [if_pos h]
  generalize hk : 256 = k
  simp only [(dmaBytes_frame k 0 s).2.1]

/-- A drain with no copy waiting does nothing. -/
theorem dmaDrain_idle {s : State} (h : s.bus.oamDmaPpu = false) : dmaDrain s = s := by
  simp [dmaDrain, h]

/-- The drain leaves the CPU, the cartridge and the launch alone, and of the bus clears its flag. -/
theorem dmaDrain_frame (s : State) : (dmaDrain s).cpu = s.cpu ∧ (dmaDrain s).cart = s.cart ∧
    (dmaDrain s).launch = s.launch ∧ (dmaDrain s).bus = { s.bus with oamDmaPpu := false } := by
  cases h : s.bus.oamDmaPpu
  · rw [dmaDrain_idle h, ← h]
    exact ⟨rfl, rfl, rfl, rfl⟩
  · rw [dmaDrain_copy h]
    generalize 256 = k
    exact ⟨(dmaBytes_frame k 0 s).1, (dmaBytes_frame k 0 s).2.2.1, (dmaBytes_frame k 0 s).2.2.2, rfl⟩

/-- A bus read changes no counter, flag of the frame, mask or frame buffer of the PPU. -/
theorem busRead_counters (a : Addr) (s : State) : (busRead a s).2.ppu.scanline = s.ppu.scanline ∧
    (busRead a s).2.ppu.dot = s.ppu.dot ∧ (busRead a s).2.ppu.oddFrame = s.ppu.oddFrame ∧
    (busRead a s).2.ppu.frameReady = s.ppu.frameReady ∧ (busRead a s).2.ppu.mask = s.ppu.mask ∧
    (busRead a s).2.ppu.frame = s.ppu.frame := by
  rcases busRead_cases a s with h | h | h | ⟨b, h⟩ | h <;> rw [h] <;> exact ⟨rfl, rfl, rfl, rfl, rfl, rfl⟩

/-- The copy changes no counter, flag of the frame, mask or frame buffer of the PPU. -/
theorem dmaBytes_counters (k i : Nat) (s : State) : (dmaBytes k i s).ppu.scanline = s.ppu.scanline ∧
    (dmaBytes k i s).ppu.dot = s.ppu.dot ∧ (dmaBytes k i s).ppu.oddFrame = s.ppu.oddFrame ∧
    (dmaBytes k i s).ppu.frameReady = s.ppu.frameReady ∧ (dmaBytes k i s).ppu.mask = s.ppu.mask ∧
    (dmaBytes k i s).ppu.frame = s.ppu.frame := by
  induction k generalizing i s with
  | zero => exact ⟨rfl, rfl, rfl, rfl, rfl, rfl⟩
  | succ k ih =>
    obtain ⟨g1, g2, g3, g4, g5, g6⟩ := ih (i + 1) (dmaByte i s)
    obtain ⟨h1, h2, h3, h4, h5, h6⟩ := busRead_counters (s.bus.oamDmaAddr + BitVec.ofNat 16 i) s
    exact ⟨g1.trans h1, g2.trans h2, g3.trans h3, g4.trans h4, g5.trans h5, g6.trans h6⟩

/-- The drain changes no counter, flag of the frame, mask or frame buffer of the PPU. -/
theorem dmaDrain_counters (s : State) : (dmaDrain s).ppu.scanline = s.ppu.scanline ∧
    (dmaDrain s).ppu.dot = s.ppu.dot ∧ (dmaDrain s).ppu.oddFrame = s.ppu.oddFrame ∧
    (dmaDrain s).ppu.frameReady = s.ppu.frameReady ∧ (dmaDrain s).ppu.mask = s.ppu.mask ∧
    (dmaDrain s).ppu.frame = s.ppu.frame := by
  cases h : s.bus.oamDmaPpu
  · rw [dmaDrain_idle h]
    exact ⟨rfl, rfl, rfl, rfl, rfl, rfl⟩
  · rw [dmaDrain_copy h]
    generalize 256 = k
    exact dmaBytes_counters k 0 s

/-! ### The stages of a dot change the PPU alone -/

/-- The background fetch changes the PPU alone. -/
theorem backgroundFetch_ppu (s : State) : ∃ p, backgroundFetch s = { s with ppu := p } := by
  unfold backgroundFetch
  split
  · split
    · exact ⟨_, rfl⟩
    · exact ⟨_, rfl⟩
    · exact ⟨_, rfl⟩
    · exact ⟨_, rfl⟩
    · split
      · exact ⟨_, rfl⟩
      · exact ⟨s.ppu, rfl⟩
    · exact ⟨s.ppu, rfl⟩
  · exact ⟨s.ppu, rfl⟩

/-- The sprite transfer and fetch change the PPU alone. -/
theorem spriteLoads_ppu (s : State) : ∃ p, spriteLoads s = { s with ppu := p } := by
  unfold spriteLoads
  split
  · simp only
    split <;> split <;> exact ⟨_, rfl⟩
  · exact ⟨s.ppu, rfl⟩

/-- The pixel changes the PPU alone. -/
theorem outputPixel_ppu (s : State) : ∃ p, outputPixel s = { s with ppu := p } := ⟨_, rfl⟩

/-! ### Which fields of the PPU each stage may change -/

/-- A PPU read depends on the cartridge, the two PPU memories and the greyscale bit alone. -/
theorem ppuRead_congr {s t : State} (hc : s.cart = t.cart) (hn : s.ppu.nt = t.ppu.nt)
    (hp : s.ppu.pal = t.ppu.pal) (hm : s.ppu.mask = t.ppu.mask) (a : Addr) :
    ppuRead a s = ppuRead a t := by
  unfold ppuRead Ppu.greyscale
  rw [hc, hn, hp, hm]

/-- With rendering on the load of phase 0 is `LoadShifters()`. -/
theorem Ppu.reloadShifters_on {p : Ppu} (h : p.rendering = true) : p.reloadShifters = p.loadShifters := by
  simp [Ppu.reloadShifters, h]

/-- With rendering off the load of phase 0 does nothing (R231). -/
theorem Ppu.reloadShifters_off {p : Ppu} (h : p.rendering = false) : p.reloadShifters = p := by
  simp [Ppu.reloadShifters, h]

/-- The load of phase 0 changes the four shifters alone. -/
theorem Ppu.reloadShifters_fields (p : Ppu) : ∃ a b c d, p.reloadShifters =
    { p with shPatLo := a, shPatHi := b, shAttrLo := c, shAttrHi := d } := by
  unfold Ppu.reloadShifters
  split
  · exact ⟨_, _, _, _, rfl⟩
  · exact ⟨p.shPatLo, p.shPatHi, p.shAttrLo, p.shAttrHi, rfl⟩

/-- The background fetch changes `v`, the latches and the shifters alone; of a shifter the high byte stays, and
with rendering off all of it and `v` stay. -/
theorem backgroundFetch_fields (s : State) :
    ∃ v id at_ lo_ hi_ a b c d, backgroundFetch s = { s with ppu := { s.ppu with
      v := v, bgNextTileId := id, bgNextAttr := at_, bgNextLo := lo_, bgNextHi := hi_,
      shPatLo := a, shPatHi := b, shAttrLo := c, shAttrHi := d } } ∧
    hi a = hi s.ppu.shPatLo ∧ hi b = hi s.ppu.shPatHi ∧ hi c = hi s.ppu.shAttrLo ∧ hi d = hi s.ppu.shAttrHi ∧
    (s.ppu.rendering = false → v = s.ppu.v ∧ a = s.ppu.shPatLo ∧ b = s.ppu.shPatHi ∧ c = s.ppu.shAttrLo ∧
      d = s.ppu.shAttrHi) := by
  have hload (sh : Addr) (b : Byte) : hi ((sh &&& 0xFF00#16) ||| zext16 b) = hi sh := by
    apply BitVec.eq_of_getLsbD_eq
    intro i h
    have hm : ∀ i < 8, (0xFF00#16).getLsbD (8 + i) = true := by decide
    simp [hi, zext16, hm i h]
  unfold backgroundFetch
  split
  · split
    · cases hr : s.ppu.rendering
      · simp only [State.mapPpu, Ppu.reloadShifters_off hr]
        exact ⟨_, _, _, _, _, _, _, _, _, rfl, rfl, rfl, rfl, rfl, fun _ => ⟨rfl, rfl, rfl, rfl, rfl⟩⟩
      · simp only [State.mapPpu, Ppu.reloadShifters_on hr]
        exact ⟨_, _, _, _, _, _, _, _, _, rfl, hload _ _, hload _ _, hload _ _, hload _ _, nofun⟩
    · exact ⟨_, _, _, _, _, _, _, _, _, rfl, rfl, rfl, rfl, rfl, fun _ => ⟨rfl, rfl, rfl, rfl, rfl⟩⟩
    · exact ⟨_, _, _, _, _, _, _, _, _, rfl, rfl, rfl, rfl, rfl, fun _ => ⟨rfl, rfl, rfl, rfl, rfl⟩⟩
    · exact ⟨_, _, _, _, _, _, _, _, _, rfl, rfl, rfl, rfl, rfl, fun _ => ⟨rfl, rfl, rfl, rfl, rfl⟩⟩
    · split
      · exact ⟨_, _, _, _, _, _, _, _, _, rfl, rfl, rfl, rfl, rfl, fun h => by simp_all⟩
      · exact ⟨s.ppu.v, _, _, _, _, _, _, _, _, rfl, rfl, rfl, rfl, rfl, fun _ => ⟨rfl, rfl, rfl, rfl, rfl⟩⟩
    · exact ⟨s.ppu.v, _, _, _, _, _, _, _, _, rfl, rfl, rfl, rfl, rfl, fun _ => ⟨rfl, rfl, rfl, rfl, rfl⟩⟩
  · exact ⟨s.ppu.v, _, _, _, _, _, _, _, _, rfl, rfl, rfl, rfl, rfl, fun _ => ⟨rfl, rfl, rfl, rfl, rfl⟩⟩

/-- The scroll updates change `v` alone. -/
theorem Ppu.scrollUpdates_fields (p : Ppu) : ∃ v, p.scrollUpdates = { p with v := v } := by
  unfold Ppu.scrollUpdates
  split
  · exact ⟨_, rfl⟩
  · exact ⟨p.v, rfl⟩

/-- The transfer and the fetches change the current sprites and empty the staged buffer, and nothing else; with
rendering off they do nothing. -/
theorem spriteLoads_fields (s : State) : ∃ cs cc c0 nc n0, spriteLoads s = { s with ppu := { s.ppu with
    curSprites := cs, curCount := cc, curSprite0 := c0, nextCount := nc, nextSprite0 := n0 } } ∧
    (s.ppu.rendering = false → cs = s.ppu.curSprites ∧ cc = s.ppu.curCount ∧ c0 = s.ppu.curSprite0 ∧
      nc = s.ppu.nextCount ∧ n0 = s.ppu.nextSprite0) := by
  unfold spriteLoads
  split
  · rename_i h
    simp only
    split <;> split <;> exact ⟨_, _, _, _, _, rfl, fun h' => by simp_all⟩
  · exact ⟨_, _, _, _, _, rfl, fun _ => ⟨rfl, rfl, rfl, rfl, rfl⟩⟩

/-- The scan changes the staged buffer and sprite overflow alone. -/
theorem Ppu.scanOam_fields (k n : Nat) (p : Ppu) : ∃ ns nc n0 ov, Ppu.scanOam k n p =
    { p with nextSprites := ns, nextCount := nc, nextSprite0 := n0, spriteOverflow := ov } := by
  induction k generalizing n p with
  | zero => exact ⟨_, _, _, _, rfl⟩
  | succ k ih =>
    unfold Ppu.scanOam
    split
    · split
      · obtain ⟨ns, nc, n0, ov, h⟩ := ih (n + 1) { p with
          nextSprites := p.nextSprites.set p.nextCount (p.oamSprite n)
          nextSprite0 := p.nextSprite0 || n == 0
          nextCount := p.nextCount + 1 }
        exact ⟨ns, nc, n0, ov, h⟩
      · exact ⟨_, _, _, _, rfl⟩
    · exact ih _ _

/-- The evaluation changes the staged buffer and sprite overflow alone. -/
theorem Ppu.spriteEvaluate_fields (p : Ppu) : ∃ ns nc n0 ov, p.spriteEvaluate =
    { p with nextSprites := ns, nextCount := nc, nextSprite0 := n0, spriteOverflow := ov } := by
  obtain ⟨ns, nc, n0, ov, h⟩ := Ppu.scanOam_fields 64 0 { p with nextCount := 0, nextSprite0 := false }
  exact ⟨ns, nc, n0, ov, h⟩

/-- A shift changes the four shifters alone. -/
theorem Ppu.backgroundShift_fields (p : Ppu) : ∃ a b c d, p.backgroundShift =
    { p with shPatLo := a, shPatHi := b, shAttrLo := c, shAttrHi := d } := by
  unfold Ppu.backgroundShift
  split
  · exact ⟨_, _, _, _, rfl⟩
  · exact ⟨p.shPatLo, p.shPatHi, p.shAttrLo, p.shAttrHi, rfl⟩

/-- The sprite shift changes the current sprites' slots alone. -/
theorem Ppu.spriteShift_fields (p : Ppu) : ∃ cs, p.spriteShift = { p with curSprites := cs } := by
  unfold Ppu.spriteShift
  split
  · exact ⟨_, rfl⟩
  · exact ⟨p.curSprites, rfl⟩

/-- The pixel changes the frame buffer and the sprite-0 hit alone. -/
theorem outputPixel_fields (s : State) : ∃ hit f, outputPixel s = { s with ppu := { s.ppu with
    sprite0Hit := hit, frame := f } } := ⟨_, _, rfl⟩

/-- The counters' advance changes the counters and the frame flags alone. -/
theorem Ppu.advance_fields (p : Ppu) : ∃ d l odd ready, p.advance =
    { p with dot := d, scanline := l, oddFrame := odd, frameReady := ready } := by
  unfold Ppu.advance
  split
  · split
    · exact ⟨_, _, _, _, rfl⟩
    · exact ⟨_, _, p.oddFrame, p.frameReady, rfl⟩
  · exact ⟨_, p.scanline, p.oddFrame, p.frameReady, rfl⟩

/-- A clock with no copy waiting and no dot to skip: the dot's work, then the counters. -/
theorem ppuClock_ownDot {s : State} (hd : s.bus.oamDmaPpu = false)
    (hs : ¬ (s.ppu.scanline = 0 ∧ s.ppu.dot = 0 ∧ s.ppu.oddFrame = true ∧ s.ppu.rendering = true)) :
    ppuClock s = (dotWork s).mapPpu Ppu.advance := by
  unfold ppuClock
  rw [dmaDrain_idle hd]
  simp only [State.mapPpu, Ppu.oddSkip, if_neg hs]

/-! ### The CPU clock -/

/-- The DMA stall keeps every register, and leaves no stall to take. -/
theorem dmaStall_cases (s : State) :
    (s.bus.oamDmaCpu = false ∧ dmaStall s = s) ∨
    (s.bus.oamDmaCpu = true ∧ dmaStall s = { s with
      cpu := { s.cpu with next := s.cpu.next + 513 + s.cpu.cycl % 2 }
      bus := { s.bus with oamDmaCpu := false } }) := by
  unfold dmaStall
  cases h : s.bus.oamDmaCpu
  · exact .inl ⟨rfl, by simp⟩
  · exact .inr ⟨rfl, by simp⟩

/-- Everything a CPU clock can do: nothing (jammed), only count, enter an interrupt, or execute. -/
theorem cpuClock_cases (s : State) :
    (s.cpu.jammed = true ∧ cpuClock s = .next s) ∨
    (s.cpu.jammed = false ∧ (dmaStall s).cpu.cycl ≠ (dmaStall s).cpu.next ∧
      cpuClock s = .next ((dmaStall s).mapCpu Cpu.countCycle)) ∨
    (s.cpu.jammed = false ∧ (dmaStall s).cpu.cycl = (dmaStall s).cpu.next ∧
      ∃ k, pendingInterrupt (dmaStall s) = some k ∧
        cpuClock s = .next ((takeInterrupt k (dmaStall s)).mapCpu Cpu.countCycle)) ∨
    (s.cpu.jammed = false ∧ (dmaStall s).cpu.cycl = (dmaStall s).cpu.next ∧
      pendingInterrupt (dmaStall s) = none ∧
      cpuClock s = match exec (fetchInstr (dmaStall s)).1 (fetchInstr (dmaStall s)).2 with
        | .next t => .next (t.mapCpu Cpu.countCycle)
        | .fault r => .fault r
        | .refused r => .refused r) := by
  cases hj : s.cpu.jammed
  · by_cases hd : (dmaStall s).cpu.cycl = (dmaStall s).cpu.next
    · cases hp : pendingInterrupt (dmaStall s) with
      | none =>
        refine .inr (.inr (.inr ⟨rfl, hd, rfl, ?_⟩))
        simp only [cpuClock, hj, dueWork, hd, hp, if_true, Bool.false_eq_true, if_false]
        cases exec (fetchInstr (dmaStall s)).1 (fetchInstr (dmaStall s)).2 <;> rfl
      | some k => exact .inr (.inr (.inl ⟨rfl, hd, k, rfl, by simp [cpuClock, hj, dueWork, hd, hp]⟩))
    · exact .inr (.inl ⟨rfl, hd, by simp [cpuClock, hj, dueWork, hd]⟩)
  · exact .inl ⟨rfl, by simp [cpuClock, hj]⟩

end Sys2Proof.Machine
end

