-- ==== Sys2Proof/Tests/Slice0.lean ====
section
/-! SUPPORT. Tests: the well-formedness checks refuse ill-formed rows; the words of the spec's encodings
decode to their instructions; one vector of 95_test_vectors.md for most mnemonics, one tick each; and for
every statement with hypotheses a concrete state and operands that meet them. Expected results are the
spec's. -/

namespace Sys2Proof.Tests

open Sys2Proof Sys2Proof.Machine Sys2Proof.Claims

/-! ### Well-formedness: each check refuses an ill-formed row -/

theorem test_row_legal : (⟨0xA9#8, "LDA", .imm, 2, false, [0x80#8]⟩ : Row).wellFormed = true := by decide
theorem test_row_operand_missing : (⟨0xA9#8, "LDA", .imm, 2, false, []⟩ : Row).wellFormed = false := by
  decide
theorem test_row_operand_too_many :
    (⟨0xEA#8, "NOP", .imp, 2, false, [0x80#8]⟩ : Row).wellFormed = false := by decide
theorem test_row_cycles_too_few : (⟨0xEA#8, "NOP", .imp, 1, false, []⟩ : Row).wellFormed = false := by
  decide
theorem test_row_cycles_too_many : (⟨0xEA#8, "NOP", .imp, 9, false, []⟩ : Row).wellFormed = false := by
  decide
theorem test_row_page_cross_unindexed :
    (⟨0xAD#8, "LDA", .abs, 4, true, [0x00#8, 0x20#8]⟩ : Row).wellFormed = false := by decide
theorem test_row_mnemonic : (⟨0xA9#8, "LDAX", .imm, 2, false, [0x80#8]⟩ : Row).wellFormed = false := by
  decide

/-! ### Decoding: the words of the spec's encodings -/

/-- The bytes decode to the instruction and nothing is left over. -/
def reads (bytes : List Byte) (i : Instr) : Bool :=
  match decode bytes with
  | .ok (j, rest) => decide (j = i) && rest.isEmpty
  | .error _ => false

/-- All these bytes decode to their instructions. -/
def allRead (table : List (List Byte × Instr)) : Bool := table.all fun p => reads p.1 p.2

/-- The words of the **Encoding** lines of R104-R109, with operand bytes $34 and $12. -/
theorem test_decode_loads_stores :
  allRead [([0xA1#8, 0x34#8], .ldaIzx 0x34#8), ([0xA5#8, 0x34#8], .ldaZp 0x34#8),
   ([0xA9#8, 0x34#8], .ldaImm 0x34#8), ([0xAD#8, 0x34#8, 0x12#8], .ldaAbs 0x1234#16),
   ([0xB1#8, 0x34#8], .ldaIzy 0x34#8), ([0xB5#8, 0x34#8], .ldaZpx 0x34#8),
   ([0xB9#8, 0x34#8, 0x12#8], .ldaAby 0x1234#16), ([0xBD#8, 0x34#8, 0x12#8], .ldaAbx 0x1234#16),
   ([0xA2#8, 0x34#8], .ldxImm 0x34#8), ([0xA6#8, 0x34#8], .ldxZp 0x34#8),
   ([0xAE#8, 0x34#8, 0x12#8], .ldxAbs 0x1234#16), ([0xB6#8, 0x34#8], .ldxZpy 0x34#8)] = true ∧
  allRead [([0xBE#8, 0x34#8, 0x12#8], .ldxAby 0x1234#16), ([0xA0#8, 0x34#8], .ldyImm 0x34#8),
   ([0xA4#8, 0x34#8], .ldyZp 0x34#8), ([0xAC#8, 0x34#8, 0x12#8], .ldyAbs 0x1234#16),
   ([0xB4#8, 0x34#8], .ldyZpx 0x34#8), ([0xBC#8, 0x34#8, 0x12#8], .ldyAbx 0x1234#16),
   ([0x81#8, 0x34#8], .staIzx 0x34#8), ([0x85#8, 0x34#8], .staZp 0x34#8),
   ([0x8D#8, 0x34#8, 0x12#8], .staAbs 0x1234#16), ([0x91#8, 0x34#8], .staIzy 0x34#8),
   ([0x95#8, 0x34#8], .staZpx 0x34#8), ([0x99#8, 0x34#8, 0x12#8], .staAby 0x1234#16)] = true ∧
  allRead [([0x9D#8, 0x34#8, 0x12#8], .staAbx 0x1234#16), ([0x86#8, 0x34#8], .stxZp 0x34#8),
   ([0x8E#8, 0x34#8, 0x12#8], .stxAbs 0x1234#16), ([0x96#8, 0x34#8], .stxZpy 0x34#8),
   ([0x84#8, 0x34#8], .styZp 0x34#8), ([0x8C#8, 0x34#8, 0x12#8], .styAbs 0x1234#16),
   ([0x94#8, 0x34#8], .styZpx 0x34#8)] = true := by
  decide

/-- The words of the **Encoding** lines of R110-R119, with operand bytes $34 and $12. -/
theorem test_decode_transfers_stack :
  allRead [([0xAA#8], .tax), ([0xA8#8], .tay),
   ([0x8A#8], .txa), ([0x98#8], .tya),
   ([0xBA#8], .tsx), ([0x9A#8], .txs),
   ([0x48#8], .pha), ([0x08#8], .php),
   ([0x68#8], .pla), ([0x28#8], .plp)] = true := by
  decide

/-- The words of the **Encoding** lines of R124-R177, with operand bytes $34 and $12. -/
theorem test_decode_arithmetic :
  allRead [([0x61#8, 0x34#8], .adcIzx 0x34#8), ([0x65#8, 0x34#8], .adcZp 0x34#8),
   ([0x69#8, 0x34#8], .adcImm 0x34#8), ([0x6D#8, 0x34#8, 0x12#8], .adcAbs 0x1234#16),
   ([0x71#8, 0x34#8], .adcIzy 0x34#8), ([0x75#8, 0x34#8], .adcZpx 0x34#8),
   ([0x79#8, 0x34#8, 0x12#8], .adcAby 0x1234#16), ([0x7D#8, 0x34#8, 0x12#8], .adcAbx 0x1234#16),
   ([0xE1#8, 0x34#8], .sbcIzx 0x34#8), ([0xE5#8, 0x34#8], .sbcZp 0x34#8),
   ([0xE9#8, 0x34#8], .sbcImm 0x34#8), ([0xED#8, 0x34#8, 0x12#8], .sbcAbs 0x1234#16)] = true ∧
  allRead [([0xF1#8, 0x34#8], .sbcIzy 0x34#8), ([0xF5#8, 0x34#8], .sbcZpx 0x34#8),
   ([0xF9#8, 0x34#8, 0x12#8], .sbcAby 0x1234#16), ([0xFD#8, 0x34#8, 0x12#8], .sbcAbx 0x1234#16),
   ([0xEB#8, 0x34#8], .sbcImmEB 0x34#8)] = true := by
  decide

/-- The words of the **Encoding** lines of R126-R132, with operand bytes $34 and $12. -/
theorem test_decode_logic_compare :
  allRead [([0x21#8, 0x34#8], .andIzx 0x34#8), ([0x25#8, 0x34#8], .andZp 0x34#8),
   ([0x29#8, 0x34#8], .andImm 0x34#8), ([0x2D#8, 0x34#8, 0x12#8], .andAbs 0x1234#16),
   ([0x31#8, 0x34#8], .andIzy 0x34#8), ([0x35#8, 0x34#8], .andZpx 0x34#8),
   ([0x39#8, 0x34#8, 0x12#8], .andAby 0x1234#16), ([0x3D#8, 0x34#8, 0x12#8], .andAbx 0x1234#16),
   ([0x01#8, 0x34#8], .oraIzx 0x34#8), ([0x05#8, 0x34#8], .oraZp 0x34#8),
   ([0x09#8, 0x34#8], .oraImm 0x34#8), ([0x0D#8, 0x34#8, 0x12#8], .oraAbs 0x1234#16)] = true ∧
  allRead [([0x11#8, 0x34#8], .oraIzy 0x34#8), ([0x15#8, 0x34#8], .oraZpx 0x34#8),
   ([0x19#8, 0x34#8, 0x12#8], .oraAby 0x1234#16), ([0x1D#8, 0x34#8, 0x12#8], .oraAbx 0x1234#16),
   ([0x41#8, 0x34#8], .eorIzx 0x34#8), ([0x45#8, 0x34#8], .eorZp 0x34#8),
   ([0x49#8, 0x34#8], .eorImm 0x34#8), ([0x4D#8, 0x34#8, 0x12#8], .eorAbs 0x1234#16),
   ([0x51#8, 0x34#8], .eorIzy 0x34#8), ([0x55#8, 0x34#8], .eorZpx 0x34#8),
   ([0x59#8, 0x34#8, 0x12#8], .eorAby 0x1234#16), ([0x5D#8, 0x34#8, 0x12#8], .eorAbx 0x1234#16)] = true ∧
  allRead [([0x24#8, 0x34#8], .bitZp 0x34#8), ([0x2C#8, 0x34#8, 0x12#8], .bitAbs 0x1234#16),
   ([0xC1#8, 0x34#8], .cmpIzx 0x34#8), ([0xC5#8, 0x34#8], .cmpZp 0x34#8),
   ([0xC9#8, 0x34#8], .cmpImm 0x34#8), ([0xCD#8, 0x34#8, 0x12#8], .cmpAbs 0x1234#16),
   ([0xD1#8, 0x34#8], .cmpIzy 0x34#8), ([0xD5#8, 0x34#8], .cmpZpx 0x34#8),
   ([0xD9#8, 0x34#8, 0x12#8], .cmpAby 0x1234#16), ([0xDD#8, 0x34#8, 0x12#8], .cmpAbx 0x1234#16),
   ([0xE0#8, 0x34#8], .cpxImm 0x34#8), ([0xE4#8, 0x34#8], .cpxZp 0x34#8)] = true ∧
  allRead [([0xEC#8, 0x34#8, 0x12#8], .cpxAbs 0x1234#16), ([0xC0#8, 0x34#8], .cpyImm 0x34#8),
   ([0xC4#8, 0x34#8], .cpyZp 0x34#8), ([0xCC#8, 0x34#8, 0x12#8], .cpyAbs 0x1234#16)] = true := by
  decide

/-- The words of the **Encoding** lines of R133-R138, with operand bytes $34 and $12. -/
theorem test_decode_counts :
  allRead [([0xE6#8, 0x34#8], .incZp 0x34#8), ([0xEE#8, 0x34#8, 0x12#8], .incAbs 0x1234#16),
   ([0xF6#8, 0x34#8], .incZpx 0x34#8), ([0xFE#8, 0x34#8, 0x12#8], .incAbx 0x1234#16),
   ([0xC6#8, 0x34#8], .decZp 0x34#8), ([0xCE#8, 0x34#8, 0x12#8], .decAbs 0x1234#16),
   ([0xD6#8, 0x34#8], .decZpx 0x34#8), ([0xDE#8, 0x34#8, 0x12#8], .decAbx 0x1234#16),
   ([0xE8#8], .inx), ([0xC8#8], .iny),
   ([0xCA#8], .dex), ([0x88#8], .dey)] = true := by
  decide

/-- The words of the **Encoding** lines of R139-R142, with operand bytes $34 and $12. -/
theorem test_decode_shifts :
  allRead [([0x06#8, 0x34#8], .aslZp 0x34#8), ([0x0A#8], .aslAcc),
   ([0x0E#8, 0x34#8, 0x12#8], .aslAbs 0x1234#16), ([0x16#8, 0x34#8], .aslZpx 0x34#8),
   ([0x1E#8, 0x34#8, 0x12#8], .aslAbx 0x1234#16), ([0x46#8, 0x34#8], .lsrZp 0x34#8),
   ([0x4A#8], .lsrAcc), ([0x4E#8, 0x34#8, 0x12#8], .lsrAbs 0x1234#16),
   ([0x56#8, 0x34#8], .lsrZpx 0x34#8), ([0x5E#8, 0x34#8, 0x12#8], .lsrAbx 0x1234#16),
   ([0x26#8, 0x34#8], .rolZp 0x34#8), ([0x2A#8], .rolAcc)] = true ∧
  allRead [([0x2E#8, 0x34#8, 0x12#8], .rolAbs 0x1234#16), ([0x36#8, 0x34#8], .rolZpx 0x34#8),
   ([0x3E#8, 0x34#8, 0x12#8], .rolAbx 0x1234#16), ([0x66#8, 0x34#8], .rorZp 0x34#8),
   ([0x6A#8], .rorAcc), ([0x6E#8, 0x34#8, 0x12#8], .rorAbs 0x1234#16),
   ([0x76#8, 0x34#8], .rorZpx 0x34#8), ([0x7E#8, 0x34#8, 0x12#8], .rorAbx 0x1234#16)] = true := by
  decide

/-- The words of the **Encoding** lines of R144-R151, with operand bytes $34 and $12. -/
theorem test_decode_branches :
  allRead [([0x10#8, 0x34#8], .bpl 0x34#8), ([0x30#8, 0x34#8], .bmi 0x34#8),
   ([0x50#8, 0x34#8], .bvc 0x34#8), ([0x70#8, 0x34#8], .bvs 0x34#8),
   ([0x90#8, 0x34#8], .bcc 0x34#8), ([0xB0#8, 0x34#8], .bcs 0x34#8),
   ([0xD0#8, 0x34#8], .bne 0x34#8), ([0xF0#8, 0x34#8], .beq 0x34#8)] = true := by
  decide

/-- The words of the **Encoding** lines of R152-R164, with operand bytes $34 and $12. -/
theorem test_decode_jumps_flags :
  allRead [([0x4C#8, 0x34#8, 0x12#8], .jmpAbs 0x1234#16), ([0x6C#8, 0x34#8, 0x12#8], .jmpInd 0x1234#16),
   ([0x20#8, 0x34#8, 0x12#8], .jsrAbs 0x1234#16), ([0x60#8], .rts),
   ([0x00#8], .brk), ([0x40#8], .rti),
   ([0x18#8], .clc), ([0x38#8], .sec),
   ([0x58#8], .cli), ([0x78#8], .sei),
   ([0xB8#8], .clv), ([0xD8#8], .cld)] = true ∧
  allRead [([0xF8#8], .sed), ([0xEA#8], .nop)] = true := by
  decide

/-- The words of the **Encoding** lines of R165-R170, with operand bytes $34 and $12. -/
theorem test_decode_combined :
  allRead [([0x03#8, 0x34#8], .sloIzx 0x34#8), ([0x07#8, 0x34#8], .sloZp 0x34#8),
   ([0x0F#8, 0x34#8, 0x12#8], .sloAbs 0x1234#16), ([0x13#8, 0x34#8], .sloIzy 0x34#8),
   ([0x17#8, 0x34#8], .sloZpx 0x34#8), ([0x1B#8, 0x34#8, 0x12#8], .sloAby 0x1234#16),
   ([0x1F#8, 0x34#8, 0x12#8], .sloAbx 0x1234#16), ([0x23#8, 0x34#8], .rlaIzx 0x34#8),
   ([0x27#8, 0x34#8], .rlaZp 0x34#8), ([0x2F#8, 0x34#8, 0x12#8], .rlaAbs 0x1234#16),
   ([0x33#8, 0x34#8], .rlaIzy 0x34#8), ([0x37#8, 0x34#8], .rlaZpx 0x34#8)] = true ∧
  allRead [([0x3B#8, 0x34#8, 0x12#8], .rlaAby 0x1234#16), ([0x3F#8, 0x34#8, 0x12#8], .rlaAbx 0x1234#16),
   ([0x43#8, 0x34#8], .sreIzx 0x34#8), ([0x47#8, 0x34#8], .sreZp 0x34#8),
   ([0x4F#8, 0x34#8, 0x12#8], .sreAbs 0x1234#16), ([0x53#8, 0x34#8], .sreIzy 0x34#8),
   ([0x57#8, 0x34#8], .sreZpx 0x34#8), ([0x5B#8, 0x34#8, 0x12#8], .sreAby 0x1234#16),
   ([0x5F#8, 0x34#8, 0x12#8], .sreAbx 0x1234#16), ([0x63#8, 0x34#8], .rraIzx 0x34#8),
   ([0x67#8, 0x34#8], .rraZp 0x34#8), ([0x6F#8, 0x34#8, 0x12#8], .rraAbs 0x1234#16)] = true ∧
  allRead [([0x73#8, 0x34#8], .rraIzy 0x34#8), ([0x77#8, 0x34#8], .rraZpx 0x34#8),
   ([0x7B#8, 0x34#8, 0x12#8], .rraAby 0x1234#16), ([0x7F#8, 0x34#8, 0x12#8], .rraAbx 0x1234#16),
   ([0xC3#8, 0x34#8], .dcpIzx 0x34#8), ([0xC7#8, 0x34#8], .dcpZp 0x34#8),
   ([0xCF#8, 0x34#8, 0x12#8], .dcpAbs 0x1234#16), ([0xD3#8, 0x34#8], .dcpIzy 0x34#8),
   ([0xD7#8, 0x34#8], .dcpZpx 0x34#8), ([0xDB#8, 0x34#8, 0x12#8], .dcpAby 0x1234#16),
   ([0xDF#8, 0x34#8, 0x12#8], .dcpAbx 0x1234#16), ([0xE3#8, 0x34#8], .isbIzx 0x34#8)] = true ∧
  allRead [([0xE7#8, 0x34#8], .isbZp 0x34#8), ([0xEF#8, 0x34#8, 0x12#8], .isbAbs 0x1234#16),
   ([0xF3#8, 0x34#8], .isbIzy 0x34#8), ([0xF7#8, 0x34#8], .isbZpx 0x34#8),
   ([0xFB#8, 0x34#8, 0x12#8], .isbAby 0x1234#16), ([0xFF#8, 0x34#8, 0x12#8], .isbAbx 0x1234#16)] = true := by
  decide

/-- The words of the **Encoding** lines of R171-R176, with operand bytes $34 and $12. -/
theorem test_decode_undocumented :
  allRead [([0xA3#8, 0x34#8], .laxIzx 0x34#8), ([0xA7#8, 0x34#8], .laxZp 0x34#8),
   ([0xAF#8, 0x34#8, 0x12#8], .laxAbs 0x1234#16), ([0xB3#8, 0x34#8], .laxIzy 0x34#8),
   ([0xB7#8, 0x34#8], .laxZpy 0x34#8), ([0xBF#8, 0x34#8, 0x12#8], .laxAby 0x1234#16),
   ([0x83#8, 0x34#8], .saxIzx 0x34#8), ([0x87#8, 0x34#8], .saxZp 0x34#8),
   ([0x8F#8, 0x34#8, 0x12#8], .saxAbs 0x1234#16), ([0x97#8, 0x34#8], .saxZpy 0x34#8),
   ([0x0B#8, 0x34#8], .aacImm0B 0x34#8), ([0x2B#8, 0x34#8], .aacImm2B 0x34#8)] = true ∧
  allRead [([0x4B#8, 0x34#8], .asrImm 0x34#8), ([0x6B#8, 0x34#8], .arrImm 0x34#8),
   ([0xCB#8, 0x34#8], .axsImm 0x34#8)] = true := by
  decide

/-- The words of the **Encoding** lines of R178-R181, with operand bytes $34 and $12. -/
theorem test_decode_nops_kil :
  allRead [([0x1A#8], .nop1A), ([0x3A#8], .nop3A),
   ([0x5A#8], .nop5A), ([0x7A#8], .nop7A),
   ([0xDA#8], .nopDA), ([0xFA#8], .nopFA),
   ([0x80#8, 0x34#8], .nopImm80 0x34#8), ([0x82#8, 0x34#8], .nopImm82 0x34#8),
   ([0x89#8, 0x34#8], .nopImm89 0x34#8), ([0xC2#8, 0x34#8], .nopImmC2 0x34#8),
   ([0xE2#8, 0x34#8], .nopImmE2 0x34#8), ([0x04#8, 0x34#8], .nopZp04 0x34#8)] = true ∧
  allRead [([0x0C#8, 0x34#8, 0x12#8], .nopAbs 0x1234#16), ([0x14#8, 0x34#8], .nopZpx14 0x34#8),
   ([0x1C#8, 0x34#8, 0x12#8], .nopAbx1C 0x1234#16), ([0x34#8, 0x34#8], .nopZpx34 0x34#8),
   ([0x3C#8, 0x34#8, 0x12#8], .nopAbx3C 0x1234#16), ([0x44#8, 0x34#8], .nopZp44 0x34#8),
   ([0x54#8, 0x34#8], .nopZpx54 0x34#8), ([0x5C#8, 0x34#8, 0x12#8], .nopAbx5C 0x1234#16),
   ([0x64#8, 0x34#8], .nopZp64 0x34#8), ([0x74#8, 0x34#8], .nopZpx74 0x34#8),
   ([0x7C#8, 0x34#8, 0x12#8], .nopAbx7C 0x1234#16), ([0xD4#8, 0x34#8], .nopZpxD4 0x34#8)] = true ∧
  allRead [([0xDC#8, 0x34#8, 0x12#8], .nopAbxDC 0x1234#16), ([0xF4#8, 0x34#8], .nopZpxF4 0x34#8),
   ([0xFC#8, 0x34#8, 0x12#8], .nopAbxFC 0x1234#16), ([0x02#8], .kil02),
   ([0x12#8], .kil12), ([0x22#8], .kil22),
   ([0x32#8], .kil32), ([0x42#8], .kil42),
   ([0x52#8], .kil52), ([0x62#8], .kil62),
   ([0x72#8], .kil72), ([0x92#8], .kil92)] = true ∧
  allRead [([0xB2#8], .kilB2), ([0xD2#8], .kilD2),
   ([0xF2#8], .kilF2)] = true := by
  decide

/-- The words of the **Encoding** lines of R183-R189, with operand bytes $34 and $12. -/
theorem test_decode_unstable :
  allRead [([0x8B#8, 0x34#8], .aneImm 0x34#8), ([0xAB#8, 0x34#8], .lxaImm 0x34#8),
   ([0x93#8, 0x34#8], .shaIzy 0x34#8), ([0x9F#8, 0x34#8, 0x12#8], .shaAby 0x1234#16),
   ([0x9E#8, 0x34#8, 0x12#8], .shxAby 0x1234#16), ([0x9C#8, 0x34#8, 0x12#8], .shyAbx 0x1234#16),
   ([0x9B#8, 0x34#8, 0x12#8], .tasAby 0x1234#16), ([0xBB#8, 0x34#8, 0x12#8], .lasAby 0x1234#16)] = true := by
  decide

/-- Missing operand bytes and an empty string are rejected by name. -/
theorem test_decode_rejects : decode [] = .error .noOpcode ∧
    decode [0xA9#8] = .error (.operandBytesMissing 0xA9#8) ∧
    decode [0x20#8, 0x34#8] = .error (.operandBytesMissing 0x20#8) := ⟨rfl, rfl, rfl⟩

/-- A table word, the first byte in its low bits, decodes; short rows get operand bytes of zero. -/
theorem test_table_word : decodeTableWord 24 0x12348D = some (.staAbs 0x1234#16) ∧
    decodeTableWord 8 0xA9 = some (.ldaImm 0x00#8) := by decide

/-- A placed instruction runs at the very next tick (A takes the immediate byte). -/
theorem test_with_fetch_word :  (match step (State.reset.withFetchWord 16 0x80A9) with
    | .next t => decide (t.cpu.a = 0x80#8 ∧ t.cpu.next = 2 ∧ t.cpu.cycl = 1)
    | _ => false) = true := by decide

/-! ### Vectors of 95_test_vectors.md: the CPU clock of a due tick -/

/-- A due CPU with a cartridge that lists the given bytes. -/
def start (a x y sp stat : Byte) (pc : Addr) (ram prg : List Host.Cell) : State :=
  { State.reset with
    cpu := { Cpu.atReset with
      a := a, x := x, y := y, sp := sp, stat := stat, pc := pc, cycl := 100, next := 100 }
    bus := { Bus.atReset with ram := Memory.ofCells 0xFF#8 ram }
    cart := { Cartridge.atReset with prg := Memory.ofCells 0xFF#8 prg } }

/-- The registers, RAM and cycles after one CPU clock. -/
def ends (s : State) (a x y sp stat : Byte) (pc : Addr) (ram : List Host.Cell) (cycles : Nat) : Bool :=
  match cpuClock s with
  | .next t =>
    decide (t.cpu.a = a) && decide (t.cpu.x = x) && decide (t.cpu.y = y) && decide (t.cpu.sp = sp) &&
      decide (t.cpu.stat = stat) && decide (t.cpu.pc = pc) && decide (t.cpu.next = 100 + cycles) &&
      decide (t.bus.ram = Memory.ofCells 0xFF#8 ram)
  | _ => false

theorem test_LS1_lda : ends (start 0x55#8 0x00#8 0x00#8 0xFD#8 0x24#8 0xC000#16 []
    [(0xC000, 0xA9#8), (0xC001, 0x00#8)])
    0x00#8 0x00#8 0x00#8 0xFD#8 0x26#8 0xC002#16 [] 2 = true := by decide
theorem test_AM13_lda : ends (start 0x00#8 0x00#8 0x01#8 0xFD#8 0x24#8 0xC000#16 [(0x0, 0x05#8), (0xFF, 0x00#8), (0x501, 0x21#8)]
    [(0xC000, 0xB1#8), (0xC001, 0xFF#8)])
    0x21#8 0x00#8 0x01#8 0xFD#8 0x24#8 0xC002#16 [(0x0, 0x05#8), (0xFF, 0x00#8), (0x501, 0x21#8)] 5 = true := by decide
theorem test_LS3_ldx : ends (start 0x00#8 0xFF#8 0x00#8 0xFD#8 0x24#8 0xC000#16 []
    [(0xC000, 0xA2#8), (0xC001, 0x01#8)])
    0x00#8 0x01#8 0x00#8 0xFD#8 0x24#8 0xC002#16 [] 2 = true := by decide
theorem test_AM3_ldx : ends (start 0x00#8 0x00#8 0x10#8 0xFD#8 0x24#8 0xC000#16 [(0xF, 0x77#8)]
    [(0xC000, 0xB6#8), (0xC001, 0xFF#8)])
    0x00#8 0x77#8 0x10#8 0xFD#8 0x24#8 0xC002#16 [(0xF, 0x77#8)] 4 = true := by decide
theorem test_LS5_sta : ends (start 0x80#8 0x00#8 0x00#8 0xFD#8 0x26#8 0xC000#16 []
    [(0xC000, 0x85#8), (0xC001, 0x10#8)])
    0x80#8 0x00#8 0x00#8 0xFD#8 0x26#8 0xC002#16 [(0x10, 0x80#8)] 3 = true := by decide
theorem test_AM14_sta : ends (start 0x5A#8 0x00#8 0x10#8 0xFD#8 0x24#8 0xC000#16 [(0x20, 0xF8#8), (0x21, 0x02#8)]
    [(0xC000, 0x91#8), (0xC001, 0x20#8)])
    0x5A#8 0x00#8 0x10#8 0xFD#8 0x24#8 0xC002#16 [(0x20, 0xF8#8), (0x21, 0x02#8), (0x308, 0x5A#8)] 6 = true := by decide
theorem test_CF13_jmp : ends (start 0x00#8 0x00#8 0x00#8 0xFD#8 0x24#8 0xC000#16 []
    [(0xC000, 0x4C#8), (0xC001, 0x34#8), (0xC002, 0x12#8)])
    0x00#8 0x00#8 0x00#8 0xFD#8 0x24#8 0x1234#16 [] 3 = true := by decide
theorem test_AM9_jmp : ends (start 0x00#8 0x00#8 0x00#8 0xFD#8 0x24#8 0xC000#16 [(0x200, 0x12#8), (0x2FF, 0x34#8), (0x300, 0x56#8)]
    [(0xC000, 0x6C#8), (0xC001, 0xFF#8), (0xC002, 0x02#8)])
    0x00#8 0x00#8 0x00#8 0xFD#8 0x24#8 0x1234#16 [(0x200, 0x12#8), (0x2FF, 0x34#8), (0x300, 0x56#8)] 5 = true := by decide
theorem test_LS4_ldy : ends (start 0x00#8 0x03#8 0x00#8 0xFD#8 0x24#8 0xC000#16 [(0x302, 0x80#8)]
    [(0xC000, 0xBC#8), (0xC001, 0xFF#8), (0xC002, 0x02#8)])
    0x00#8 0x03#8 0x80#8 0xFD#8 0xA4#8 0xC003#16 [(0x302, 0x80#8)] 5 = true := by decide
theorem test_LS6_stx : ends (start 0x00#8 0x7F#8 0x01#8 0xFD#8 0x24#8 0xC000#16 []
    [(0xC000, 0x96#8), (0xC001, 0xFF#8)])
    0x00#8 0x7F#8 0x01#8 0xFD#8 0x24#8 0xC002#16 [(0x0, 0x7F#8)] 4 = true := by decide
theorem test_LS7_sty : ends (start 0x00#8 0x01#8 0x99#8 0xFD#8 0x24#8 0xC000#16 []
    [(0xC000, 0x94#8), (0xC001, 0xFF#8)])
    0x00#8 0x01#8 0x99#8 0xFD#8 0x24#8 0xC002#16 [(0x0, 0x99#8)] 4 = true := by decide
theorem test_LS8_tax : ends (start 0x80#8 0x00#8 0x00#8 0xFD#8 0x24#8 0xC000#16 []
    [(0xC000, 0xAA#8)])
    0x80#8 0x80#8 0x00#8 0xFD#8 0xA4#8 0xC001#16 [] 2 = true := by decide
theorem test_LS9_tay : ends (start 0x00#8 0x00#8 0x05#8 0xFD#8 0x24#8 0xC000#16 []
    [(0xC000, 0xA8#8)])
    0x00#8 0x00#8 0x00#8 0xFD#8 0x26#8 0xC001#16 [] 2 = true := by decide
theorem test_LS10_txa : ends (start 0x00#8 0x00#8 0x00#8 0xFD#8 0x24#8 0xC000#16 []
    [(0xC000, 0x8A#8)])
    0x00#8 0x00#8 0x00#8 0xFD#8 0x26#8 0xC001#16 [] 2 = true := by decide
theorem test_LS11_tya : ends (start 0x00#8 0x00#8 0x80#8 0xFD#8 0x24#8 0xC000#16 []
    [(0xC000, 0x98#8)])
    0x80#8 0x00#8 0x80#8 0xFD#8 0xA4#8 0xC001#16 [] 2 = true := by decide
theorem test_LS12_tsx : ends (start 0x00#8 0x00#8 0x00#8 0x00#8 0x24#8 0xC000#16 []
    [(0xC000, 0xBA#8)])
    0x00#8 0x00#8 0x00#8 0x00#8 0x26#8 0xC001#16 [] 2 = true := by decide
theorem test_LS13_txs : ends (start 0x00#8 0x00#8 0x00#8 0xFD#8 0x24#8 0xC000#16 []
    [(0xC000, 0x9A#8)])
    0x00#8 0x00#8 0x00#8 0x00#8 0x24#8 0xC001#16 [] 2 = true := by decide
theorem test_LS14_pha : ends (start 0x12#8 0x00#8 0x00#8 0x00#8 0x24#8 0xC000#16 []
    [(0xC000, 0x48#8)])
    0x12#8 0x00#8 0x00#8 0xFF#8 0x24#8 0xC001#16 [(0x100, 0x12#8)] 3 = true := by decide
theorem test_LS15_php : ends (start 0x00#8 0x00#8 0x00#8 0xFD#8 0xE7#8 0xC000#16 []
    [(0xC000, 0x08#8)])
    0x00#8 0x00#8 0x00#8 0xFC#8 0xE7#8 0xC001#16 [(0x1FD, 0xF7#8)] 3 = true := by decide
theorem test_LS16_pla : ends (start 0x00#8 0x00#8 0x00#8 0xFF#8 0x24#8 0xC000#16 [(0x100, 0x00#8)]
    [(0xC000, 0x68#8)])
    0x00#8 0x00#8 0x00#8 0x00#8 0x26#8 0xC001#16 [(0x100, 0x00#8)] 4 = true := by decide
theorem test_LS17_plp : ends (start 0x00#8 0x00#8 0x00#8 0xFC#8 0x24#8 0xC000#16 [(0x1FD, 0x10#8)]
    [(0xC000, 0x28#8)])
    0x00#8 0x00#8 0x00#8 0xFD#8 0x20#8 0xC001#16 [(0x1FD, 0x10#8)] 4 = true := by decide
theorem test_AR4_adc : ends (start 0x50#8 0x00#8 0x00#8 0xFD#8 0x24#8 0xC000#16 []
    [(0xC000, 0x69#8), (0xC001, 0xD0#8)])
    0x20#8 0x00#8 0x00#8 0xFD#8 0x25#8 0xC002#16 [] 2 = true := by decide
theorem test_AR1_adc : ends (start 0x50#8 0x00#8 0x00#8 0xFD#8 0x24#8 0xC000#16 []
    [(0xC000, 0x69#8), (0xC001, 0x10#8)])
    0x60#8 0x00#8 0x00#8 0xFD#8 0x24#8 0xC002#16 [] 2 = true := by decide
theorem test_SB4_sbc : ends (start 0x50#8 0x00#8 0x00#8 0xFD#8 0x25#8 0xC000#16 []
    [(0xC000, 0xE9#8), (0xC001, 0x30#8)])
    0x20#8 0x00#8 0x00#8 0xFD#8 0x25#8 0xC002#16 [] 2 = true := by decide
theorem test_SB1_sbc : ends (start 0x50#8 0x00#8 0x00#8 0xFD#8 0x25#8 0xC000#16 []
    [(0xC000, 0xE9#8), (0xC001, 0xF0#8)])
    0x60#8 0x00#8 0x00#8 0xFD#8 0x24#8 0xC002#16 [] 2 = true := by decide
theorem test_LG1_and : ends (start 0xF0#8 0x00#8 0x00#8 0xFD#8 0x24#8 0xC000#16 [(0x10, 0x8F#8)]
    [(0xC000, 0x25#8), (0xC001, 0x10#8)])
    0x80#8 0x00#8 0x00#8 0xFD#8 0xA4#8 0xC002#16 [(0x10, 0x8F#8)] 3 = true := by decide
theorem test_LG2_ora : ends (start 0x00#8 0x00#8 0x00#8 0xFD#8 0x24#8 0xC000#16 []
    [(0xC000, 0x09#8), (0xC001, 0x00#8)])
    0x00#8 0x00#8 0x00#8 0xFD#8 0x26#8 0xC002#16 [] 2 = true := by decide
theorem test_LG3_eor : ends (start 0x55#8 0x00#8 0x00#8 0xFD#8 0x24#8 0xC000#16 []
    [(0xC000, 0x49#8), (0xC001, 0xAA#8)])
    0xFF#8 0x00#8 0x00#8 0xFD#8 0xA4#8 0xC002#16 [] 2 = true := by decide
theorem test_LG4_bit : ends (start 0x01#8 0x00#8 0x00#8 0xFD#8 0x24#8 0xC000#16 [(0x10, 0x3F#8)]
    [(0xC000, 0x24#8), (0xC001, 0x10#8)])
    0x01#8 0x00#8 0x00#8 0xFD#8 0x24#8 0xC002#16 [(0x10, 0x3F#8)] 3 = true := by decide
theorem test_LG9_cmp : ends (start 0x80#8 0x00#8 0x00#8 0xFD#8 0x24#8 0xC000#16 []
    [(0xC000, 0xC9#8), (0xC001, 0x00#8)])
    0x80#8 0x00#8 0x00#8 0xFD#8 0xA5#8 0xC002#16 [] 2 = true := by decide
theorem test_LG6_cmp : ends (start 0x40#8 0x00#8 0x00#8 0xFD#8 0x24#8 0xC000#16 []
    [(0xC000, 0xC9#8), (0xC001, 0x41#8)])
    0x40#8 0x00#8 0x00#8 0xFD#8 0xA4#8 0xC002#16 [] 2 = true := by decide
theorem test_LG11_cpx : ends (start 0x00#8 0x00#8 0x00#8 0xFD#8 0x24#8 0xC000#16 []
    [(0xC000, 0xE0#8), (0xC001, 0x00#8)])
    0x00#8 0x00#8 0x00#8 0xFD#8 0x27#8 0xC002#16 [] 2 = true := by decide
theorem test_LG12_cpy : ends (start 0x00#8 0x00#8 0xFF#8 0xFD#8 0x24#8 0xC000#16 [(0x10, 0xFF#8)]
    [(0xC000, 0xC4#8), (0xC001, 0x10#8)])
    0x00#8 0x00#8 0xFF#8 0xFD#8 0x27#8 0xC002#16 [(0x10, 0xFF#8)] 3 = true := by decide
theorem test_LG13_inc : ends (start 0x00#8 0x00#8 0x00#8 0xFD#8 0x24#8 0xC000#16 [(0x10, 0xFF#8)]
    [(0xC000, 0xE6#8), (0xC001, 0x10#8)])
    0x00#8 0x00#8 0x00#8 0xFD#8 0x26#8 0xC002#16 [(0x10, 0x00#8)] 5 = true := by decide
theorem test_LG14_dec : ends (start 0x00#8 0x01#8 0x00#8 0xFD#8 0x24#8 0xC000#16 [(0x301, 0x00#8)]
    [(0xC000, 0xDE#8), (0xC001, 0x00#8), (0xC002, 0x03#8)])
    0x00#8 0x01#8 0x00#8 0xFD#8 0xA4#8 0xC003#16 [(0x301, 0xFF#8)] 7 = true := by decide
theorem test_LG15_inx : ends (start 0x00#8 0x7F#8 0x00#8 0xFD#8 0x24#8 0xC000#16 []
    [(0xC000, 0xE8#8)])
    0x00#8 0x80#8 0x00#8 0xFD#8 0xA4#8 0xC001#16 [] 2 = true := by decide
theorem test_LG16_iny : ends (start 0x00#8 0x00#8 0xFF#8 0xFD#8 0x24#8 0xC000#16 []
    [(0xC000, 0xC8#8)])
    0x00#8 0x00#8 0x00#8 0xFD#8 0x26#8 0xC001#16 [] 2 = true := by decide
theorem test_LG17_dex : ends (start 0x00#8 0x00#8 0x00#8 0xFD#8 0x24#8 0xC000#16 []
    [(0xC000, 0xCA#8)])
    0x00#8 0xFF#8 0x00#8 0xFD#8 0xA4#8 0xC001#16 [] 2 = true := by decide
theorem test_LG18_dey : ends (start 0x00#8 0x00#8 0x80#8 0xFD#8 0x24#8 0xC000#16 []
    [(0xC000, 0x88#8)])
    0x00#8 0x00#8 0x7F#8 0xFD#8 0x24#8 0xC001#16 [] 2 = true := by decide
theorem test_SH1_asl : ends (start 0x80#8 0x00#8 0x00#8 0xFD#8 0x24#8 0xC000#16 []
    [(0xC000, 0x0A#8)])
    0x00#8 0x00#8 0x00#8 0xFD#8 0x27#8 0xC001#16 [] 2 = true := by decide
theorem test_SH3_lsr : ends (start 0x01#8 0x00#8 0x00#8 0xFD#8 0xA4#8 0xC000#16 []
    [(0xC000, 0x4A#8)])
    0x00#8 0x00#8 0x00#8 0xFD#8 0x27#8 0xC001#16 [] 2 = true := by decide
theorem test_SH5_rol : ends (start 0x80#8 0x00#8 0x00#8 0xFD#8 0x24#8 0xC000#16 []
    [(0xC000, 0x2A#8)])
    0x00#8 0x00#8 0x00#8 0xFD#8 0x27#8 0xC001#16 [] 2 = true := by decide
theorem test_SH7_ror : ends (start 0x00#8 0x00#8 0x00#8 0xFD#8 0x24#8 0xC000#16 [(0x10, 0x01#8)]
    [(0xC000, 0x66#8), (0xC001, 0x10#8)])
    0x00#8 0x00#8 0x00#8 0xFD#8 0x27#8 0xC002#16 [(0x10, 0x00#8)] 5 = true := by decide
theorem test_CF1_beq : ends (start 0x00#8 0x00#8 0x00#8 0xFD#8 0x24#8 0xC000#16 []
    [(0xC000, 0xF0#8), (0xC001, 0x10#8)])
    0x00#8 0x00#8 0x00#8 0xFD#8 0x24#8 0xC002#16 [] 2 = true := by decide
theorem test_CF4_bne : ends (start 0x00#8 0x00#8 0x00#8 0xFD#8 0x24#8 0xC000#16 []
    [(0xC000, 0xD0#8), (0xC001, 0xFC#8)])
    0x00#8 0x00#8 0x00#8 0xFD#8 0x24#8 0xBFFE#16 [] 4 = true := by decide
theorem test_CF6_bpl : ends (start 0x00#8 0x00#8 0x00#8 0xFD#8 0x24#8 0xC000#16 []
    [(0xC000, 0x10#8), (0xC001, 0x7F#8)])
    0x00#8 0x00#8 0x00#8 0xFD#8 0x24#8 0xC081#16 [] 3 = true := by decide
theorem test_CF8_bvs : ends (start 0x00#8 0x00#8 0x00#8 0xFD#8 0x64#8 0xC000#16 []
    [(0xC000, 0x70#8), (0xC001, 0xFE#8)])
    0x00#8 0x00#8 0x00#8 0xFD#8 0x64#8 0xC000#16 [] 3 = true := by decide
theorem test_CF9_bcc : ends (start 0x00#8 0x00#8 0x00#8 0xFD#8 0x25#8 0xC000#16 []
    [(0xC000, 0x90#8), (0xC001, 0x02#8)])
    0x00#8 0x00#8 0x00#8 0xFD#8 0x25#8 0xC002#16 [] 2 = true := by decide
theorem test_CF10_bcs : ends (start 0x00#8 0x00#8 0x00#8 0xFD#8 0x25#8 0xC000#16 []
    [(0xC000, 0xB0#8), (0xC001, 0x02#8)])
    0x00#8 0x00#8 0x00#8 0xFD#8 0x25#8 0xC004#16 [] 3 = true := by decide
theorem test_CF11_bmi : ends (start 0x00#8 0x00#8 0x00#8 0xFD#8 0xA4#8 0xC000#16 []
    [(0xC000, 0x30#8), (0xC001, 0x02#8)])
    0x00#8 0x00#8 0x00#8 0xFD#8 0xA4#8 0xC004#16 [] 3 = true := by decide
theorem test_CF12_bvc : ends (start 0x00#8 0x00#8 0x00#8 0xFD#8 0x24#8 0xC000#16 []
    [(0xC000, 0x50#8), (0xC001, 0x02#8)])
    0x00#8 0x00#8 0x00#8 0xFD#8 0x24#8 0xC004#16 [] 3 = true := by decide
theorem test_CF15_jsr : ends (start 0x00#8 0x00#8 0x00#8 0xFD#8 0x24#8 0xC000#16 []
    [(0xC000, 0x20#8), (0xC001, 0x00#8), (0xC002, 0xD0#8)])
    0x00#8 0x00#8 0x00#8 0xFB#8 0x24#8 0xD000#16 [(0x1FC, 0x02#8), (0x1FD, 0xC0#8)] 6 = true := by decide
theorem test_CF17_rts : ends (start 0x00#8 0x00#8 0x00#8 0xFB#8 0x24#8 0xC000#16 [(0x1FC, 0x02#8), (0x1FD, 0xC0#8)]
    [(0xC000, 0x60#8)])
    0x00#8 0x00#8 0x00#8 0xFD#8 0x24#8 0xC003#16 [(0x1FC, 0x02#8), (0x1FD, 0xC0#8)] 6 = true := by decide
theorem test_CF19_brk : ends (start 0x00#8 0x00#8 0x00#8 0xFD#8 0x24#8 0xC000#16 []
    [(0xC000, 0x00#8), (0xFFFE, 0x00#8), (0xFFFF, 0xE0#8)])
    0x00#8 0x00#8 0x00#8 0xFA#8 0x24#8 0xE000#16 [(0x1FB, 0x34#8), (0x1FC, 0x02#8), (0x1FD, 0xC0#8)] 7 = true := by decide
theorem test_CF21_rti : ends (start 0x00#8 0x00#8 0x00#8 0xFA#8 0x24#8 0xC000#16 [(0x1FB, 0x34#8), (0x1FC, 0x02#8), (0x1FD, 0xC0#8)]
    [(0xC000, 0x40#8)])
    0x00#8 0x00#8 0x00#8 0xFD#8 0x24#8 0xC002#16 [(0x1FB, 0x34#8), (0x1FC, 0x02#8), (0x1FD, 0xC0#8)] 6 = true := by decide
theorem test_CF23_clc : ends (start 0x00#8 0x00#8 0x00#8 0xFD#8 0xE7#8 0xC000#16 []
    [(0xC000, 0x18#8)])
    0x00#8 0x00#8 0x00#8 0xFD#8 0xE6#8 0xC001#16 [] 2 = true := by decide
theorem test_CF24_sec : ends (start 0x00#8 0x00#8 0x00#8 0xFD#8 0x24#8 0xC000#16 []
    [(0xC000, 0x38#8)])
    0x00#8 0x00#8 0x00#8 0xFD#8 0x25#8 0xC001#16 [] 2 = true := by decide
theorem test_CF25_cli : ends (start 0x00#8 0x00#8 0x00#8 0xFD#8 0x24#8 0xC000#16 []
    [(0xC000, 0x58#8)])
    0x00#8 0x00#8 0x00#8 0xFD#8 0x20#8 0xC001#16 [] 2 = true := by decide
theorem test_CF26_sei : ends (start 0x00#8 0x00#8 0x00#8 0xFD#8 0x20#8 0xC000#16 []
    [(0xC000, 0x78#8)])
    0x00#8 0x00#8 0x00#8 0xFD#8 0x24#8 0xC001#16 [] 2 = true := by decide
theorem test_CF27_clv : ends (start 0x00#8 0x00#8 0x00#8 0xFD#8 0x64#8 0xC000#16 []
    [(0xC000, 0xB8#8)])
    0x00#8 0x00#8 0x00#8 0xFD#8 0x24#8 0xC001#16 [] 2 = true := by decide
theorem test_CF28_cld : ends (start 0x00#8 0x00#8 0x00#8 0xFD#8 0x2C#8 0xC000#16 []
    [(0xC000, 0xD8#8)])
    0x00#8 0x00#8 0x00#8 0xFD#8 0x24#8 0xC001#16 [] 2 = true := by decide
theorem test_CF29_sed : ends (start 0x00#8 0x00#8 0x00#8 0xFD#8 0x24#8 0xC000#16 []
    [(0xC000, 0xF8#8)])
    0x00#8 0x00#8 0x00#8 0xFD#8 0x2C#8 0xC001#16 [] 2 = true := by decide
theorem test_CF30_nop : ends (start 0x00#8 0x00#8 0x00#8 0xFD#8 0xE7#8 0xC000#16 []
    [(0xC000, 0xEA#8)])
    0x00#8 0x00#8 0x00#8 0xFD#8 0xE7#8 0xC001#16 [] 2 = true := by decide
theorem test_UD1_slo : ends (start 0x01#8 0x00#8 0x00#8 0xFD#8 0x24#8 0xC000#16 [(0x10, 0x81#8)]
    [(0xC000, 0x07#8), (0xC001, 0x10#8)])
    0x03#8 0x00#8 0x00#8 0xFD#8 0x25#8 0xC002#16 [(0x10, 0x02#8)] 5 = true := by decide
theorem test_UD2_rla : ends (start 0xFF#8 0x00#8 0x00#8 0xFD#8 0x25#8 0xC000#16 [(0x10, 0x40#8)]
    [(0xC000, 0x27#8), (0xC001, 0x10#8)])
    0x81#8 0x00#8 0x00#8 0xFD#8 0xA4#8 0xC002#16 [(0x10, 0x81#8)] 5 = true := by decide
theorem test_UD3_sre : ends (start 0x01#8 0x00#8 0x00#8 0xFD#8 0x24#8 0xC000#16 [(0x10, 0x03#8)]
    [(0xC000, 0x47#8), (0xC001, 0x10#8)])
    0x00#8 0x00#8 0x00#8 0xFD#8 0x27#8 0xC002#16 [(0x10, 0x01#8)] 5 = true := by decide
theorem test_UD4_rra : ends (start 0x7F#8 0x00#8 0x00#8 0xFD#8 0x24#8 0xC000#16 [(0x10, 0x03#8)]
    [(0xC000, 0x67#8), (0xC001, 0x10#8)])
    0x81#8 0x00#8 0x00#8 0xFD#8 0xE4#8 0xC002#16 [(0x10, 0x01#8)] 5 = true := by decide
theorem test_UD5_dcp : ends (start 0x40#8 0x00#8 0x00#8 0xFD#8 0x24#8 0xC000#16 [(0x10, 0x41#8)]
    [(0xC000, 0xC7#8), (0xC001, 0x10#8)])
    0x40#8 0x00#8 0x00#8 0xFD#8 0x27#8 0xC002#16 [(0x10, 0x40#8)] 5 = true := by decide
theorem test_UD7_isb : ends (start 0x10#8 0x00#8 0x00#8 0xFD#8 0x25#8 0xC000#16 [(0x10, 0x04#8)]
    [(0xC000, 0xE7#8), (0xC001, 0x10#8)])
    0x0B#8 0x00#8 0x00#8 0xFD#8 0x25#8 0xC002#16 [(0x10, 0x05#8)] 5 = true := by decide
theorem test_UD9_lax : ends (start 0x00#8 0x00#8 0x10#8 0xFD#8 0x24#8 0xC000#16 [(0x305, 0x80#8)]
    [(0xC000, 0xBF#8), (0xC001, 0xF5#8), (0xC002, 0x02#8)])
    0x80#8 0x80#8 0x10#8 0xFD#8 0xA4#8 0xC003#16 [(0x305, 0x80#8)] 5 = true := by decide
theorem test_UD10_sax : ends (start 0xF0#8 0x3C#8 0x00#8 0xFD#8 0x24#8 0xC000#16 []
    [(0xC000, 0x87#8), (0xC001, 0x10#8)])
    0xF0#8 0x3C#8 0x00#8 0xFD#8 0x24#8 0xC002#16 [(0x10, 0x30#8)] 3 = true := by decide
theorem test_UD11_aac : ends (start 0xFF#8 0x00#8 0x00#8 0xFD#8 0x24#8 0xC000#16 []
    [(0xC000, 0x0B#8), (0xC001, 0x80#8)])
    0x80#8 0x00#8 0x00#8 0xFD#8 0xA5#8 0xC002#16 [] 2 = true := by decide
theorem test_UD13_asr : ends (start 0xFF#8 0x00#8 0x00#8 0xFD#8 0x24#8 0xC000#16 []
    [(0xC000, 0x4B#8), (0xC001, 0x03#8)])
    0x01#8 0x00#8 0x00#8 0xFD#8 0x25#8 0xC002#16 [] 2 = true := by decide
theorem test_UD14_arr : ends (start 0xFF#8 0x00#8 0x00#8 0xFD#8 0x25#8 0xC000#16 []
    [(0xC000, 0x6B#8), (0xC001, 0xFF#8)])
    0xFF#8 0x00#8 0x00#8 0xFD#8 0xA5#8 0xC002#16 [] 2 = true := by decide
theorem test_UD16_axs : ends (start 0x0F#8 0xFF#8 0x00#8 0xFD#8 0x24#8 0xC000#16 []
    [(0xC000, 0xCB#8), (0xC001, 0x01#8)])
    0x0F#8 0x0E#8 0x00#8 0xFD#8 0x25#8 0xC002#16 [] 2 = true := by decide
theorem test_UD23_kil : ends (start 0x00#8 0x00#8 0x00#8 0xFD#8 0x24#8 0xC000#16 []
    [(0xC000, 0x02#8)])
    0x00#8 0x00#8 0x00#8 0xFD#8 0x24#8 0xC001#16 [] 2 = true := by decide

/-! ### The unstable opcodes under `UNSTABLE_POLICY = nmos`, by the pseudocode of R185, R186 and R189 -/

theorem test_R185_sha : ends (start 0xF7#8 0xFF#8 0x01#8 0xFD#8 0x24#8 0xC000#16 []
    [(0xC000, 0x9F#8), (0xC001, 0x10#8), (0xC002, 0x06#8)])
    0xF7#8 0xFF#8 0x01#8 0xFD#8 0x24#8 0xC003#16 [(0x611, 0x07#8)] 5 = true := by decide
theorem test_R186_shx : ends (start 0x00#8 0xFF#8 0x01#8 0xFD#8 0x24#8 0xC000#16 []
    [(0xC000, 0x9E#8), (0xC001, 0x10#8), (0xC002, 0x03#8)])
    0x00#8 0xFF#8 0x01#8 0xFD#8 0x24#8 0xC003#16 [(0x311, 0x04#8)] 5 = true := by decide
theorem test_R189_las : ends (start 0x00#8 0x00#8 0x01#8 0xF0#8 0x24#8 0xC000#16 [(0x211, 0xBC#8)]
    [(0xC000, 0xBB#8), (0xC001, 0x10#8), (0xC002, 0x02#8)])
    0xB0#8 0xB0#8 0x01#8 0xB0#8 0xA4#8 0xC003#16 [(0x211, 0xBC#8)] 4 = true := by decide

/-! ### The shifter load, by R217 and R231 -/

/-- A line-0 PPU at dot 1 whose latches are full and whose shifters are empty. -/
def fullLatches (mask : Byte) : State := State.reset.mapPpu fun p =>
  { p with dot := 1, mask := mask, bgNextLo := 0xA5#8, bgNextAttr := 2#2 }

/-- R231: with rendering off the shifters keep their contents. -/
theorem test_R231_shifters_kept : shifters (ppuClock (fullLatches 0x00#8)).ppu = (0#16, 0#16, 0#16, 0#16) := by
  decide
/-- R217, R220, R221: with the background shown they are loaded, and then shift. -/
theorem test_R217_shifters_loaded :
    shifters (ppuClock (fullLatches 0x08#8)).ppu = (0x014A#16, 0#16, 0#16, 0x01FE#16) := by decide

/-! ### The window of the frame buffer, by R262 -/

/-- R262: with `frame_ready` set the frame may be read up to line 0, dot 1, and not when that pixel is out. -/
theorem test_R262_display_window :
    let at_ (line dot : Nat) : State := State.reset.mapPpu fun p =>
      { p with scanline := line, dot := dot, frameReady := true }
    (displayFrame (at_ 0 0)).isSome = true ∧ (displayFrame (at_ 0 1)).isSome = true ∧
      (displayFrame (at_ 0 2)).isSome = false ∧ (displayFrame State.reset).isSome = false := by decide

/-! ### Witnesses: a state and operands that meet the hypotheses of each statement -/

/-- The reset state with another PPU. -/
def withPpu (f : Ppu → Ppu) : State := State.reset.mapPpu f

/-- The reset state's PPU at a line and a dot, with a mask. -/
def ppuAt (line dot : Nat) (mask : Byte) : Ppu :=
  { Ppu.atReset with scanline := line, dot := dot, mask := mask }

/-- A due state at $C000 with the given bus lines and status, and a NOP there. -/
def dueWith (nmi irq : Bool) (stat : Byte) : State :=
  let s := start 0x00#8 0x00#8 0x00#8 0xFD#8 stat 0xC000#16 [] [(0xC000, 0xEA#8)]
  { s with bus := { s.bus with nmiSignal := nmi, irqLine := irq } }

/-- The form lists of the statements about the instructions are not empty. -/
theorem witness_forms :
    [ldaForms, ldxForms, ldyForms, laxForms, staForms, stxForms, styForms, saxForms, adcForms, sbcForms,
      andForms, oraForms, eorForms, bitForms, cmpForms, cpxForms, cpyForms].all
      (fun forms => !(forms 0xFF#8 0xFFFF#16).isEmpty) = true ∧
    [incForms, decForms, aslForms, lsrForms, rolForms, rorForms, sloForms, rlaForms, sreForms, rraForms,
      dcpForms, isbForms, aacForms, asrForms, arrForms, axsForms, skbForms, ignForms].all
      (fun forms => !(forms 0xFF#8 0xFFFF#16).isEmpty) = true ∧
    [aneForms, lxaForms, shaForms, shxForms, shyForms, tasForms, lasForms].all
      (fun forms => !(forms 0x00#8 0x0000#16).isEmpty) = true := by decide

theorem witness_AddressingModes : ∃ l h : Byte × State,
    busRead (BitVec.ofNat 16 ((0xFF + State.reset.cpu.x.toNat) % 256)) State.reset = l ∧
    busRead (BitVec.ofNat 16 ((0xFF + State.reset.cpu.x.toNat + 1) % 256)) l.2 = h ∧
    busRead 0x02FF#16 l.2 = h := ⟨_, _, rfl, rfl, rfl⟩

theorem witness_BranchForms : (0x10#8, Instr.bpl, 7, false) ∈ branches ∧
    State.reset.cpu.stat.getLsbD 7 = false ∧ (0x30#8, Instr.bmi, 7, true) ∈ branches ∧
    State.reset.cpu.stat.getLsbD 7 ≠ true :=
  ⟨.head _, by decide, .tail _ (.head _), by decide⟩

theorem witness_NopAndKilForms : (0xFA#8, Instr.nopFA) ∈ impliedNops ∧ (0xF2#8, Instr.kilF2) ∈ kilOpcodes := by
  decide

theorem witness_UnstableForms : State.reset.launch.unstablePolicy = .nmos := by decide

theorem witness_StorelessFormsKeepMemory : ∃ t, storesAtEa (.ldaZp 0x10#8) = false ∧
    pushCount (.ldaZp 0x10#8) = 0 ∧ exec (.ldaZp 0x10#8) State.reset = .next t :=
  ⟨_, by decide, by decide, rfl⟩

theorem witness_StoresTouchOnlyTheirByte : ∃ t, storesAtEa (.staAbs 0x07FF#16) = true ∧
    operandOf (.staAbs 0x07FF#16) = some (.abs 0x07FF#16) ∧
    exec (.staAbs 0x07FF#16) State.reset = .next t ∧
    ¬ sameByte 0x1FFE#16 (resolve (.abs 0x07FF#16) false State.reset).ea ∧
    ¬ sameByte 0xFFFF#16 (resolve (.abs 0x07FF#16) false State.reset).ea ∧
    (resolve (.abs 0x07FF#16) false State.reset).ea.ult 0x2000#16 = true ∧
    ¬ (0x2000 ≤ (resolve (.abs 0x07FF#16) false State.reset).ea.toNat ∧
      (resolve (.abs 0x07FF#16) false State.reset).ea.toNat < 0x4000) :=
  ⟨_, by decide, by decide, rfl, by decide, by decide, by decide, by decide⟩

theorem witness_AddressingModes_operandByte : ∀ x, Operand.zp 0x00#8 ≠ .imm x := nofun

theorem witness_PushesTouchOnlyTheirSlots : ∃ t, 0 < pushCount (.jsrAbs 0x0000#16) ∧
    exec (.jsrAbs 0x0000#16) State.reset = .next t ∧
    ∀ k < pushCount (.jsrAbs 0x0000#16),
      ¬ sameByte 0x01FB#16 (0x0100#16 ||| zext16 (State.reset.cpu.sp - BitVec.ofNat 8 k)) :=
  ⟨_, by decide, rfl, by decide⟩

theorem witness_FlagsHaveOnlyTheirWriters : ∃ t u, exec (.ldaZp 0x10#8) State.reset = .next t ∧
    "LDA" ∉ carryWriters ∧ "LDA" ∉ overflowWriters ∧ "LDA" ∉ ["SEI", "CLI", "PLP", "RTI", "BRK"] ∧
    "LDA" ∉ ["SED", "CLD", "PLP", "RTI"] ∧ (Instr.ldaZp 0x10#8).row.mnemonic = "LDA" ∧
    exec (.staZp 0x10#8) State.reset = .next u ∧
    (Instr.staZp 0x10#8).row.mnemonic ∈ zeroNegativeKeepers :=
  ⟨_, _, rfl, by decide, by decide, by decide, by decide, rfl, rfl, by decide⟩

theorem witness_DecodeOfEncode : (Instr.jmpInd 0xFFFF#16).wellFormed = true := by decide

theorem witness_EncodeOfDecode : decode [0xFF#8, 0x00#8, 0x20#8, 0xEA#8] = .ok (.isbAbx 0x2000#16, [0xEA#8]) :=
  rfl

theorem witness_CyclesFollowTheTable : ∃ t u,
    exec (.bne 0x80#8) State.reset = .next t ∧ exec (.ldaAbx 0x00FF#16) State.reset = .next u ∧
    (Instr.ldaAbx 0x00FF#16).row.mode ≠ .rel := ⟨_, _, rfl, rfl, by decide⟩

theorem witness_StepRunsTheInstruction :
    (let s := start 0x00#8 0x00#8 0x00#8 0xFD#8 0x24#8 0xFFFE#16 [] [(0xFFFE, 0xA9#8), (0xFFFF, 0x80#8)]
     due s ∧ pendingInterrupt s = none ∧
     (∀ k < (Instr.ldaImm 0x80#8).row.mode.length, plain (s.cpu.pc + BitVec.ofNat 16 k) s) ∧
     decode [byteAt s.cpu.pc s, byteAt (s.cpu.pc + 1#16) s, byteAt (s.cpu.pc + 2#16) s] =
       .ok (.ldaImm 0x80#8, [0x00#8])) ∧
    (let s := start 0x00#8 0x00#8 0x00#8 0xFD#8 0x24#8 0x1FFF#16 [(0x7FF, 0xEA#8)] []
     due s ∧ pendingInterrupt s = none ∧
     (∀ k < Instr.nop.row.mode.length, plain (s.cpu.pc + BitVec.ofNat 16 k) s) ∧
     ∃ rest, decode [byteAt s.cpu.pc s, byteAt (s.cpu.pc + 1#16) s, byteAt (s.cpu.pc + 2#16) s] =
       .ok (.nop, rest)) :=
  ⟨⟨by decide, by decide, by decide, rfl⟩, ⟨by decide, by decide, by decide, _, rfl⟩⟩

theorem witness_BusyTicksOnlyCount : State.reset.cpu.jammed = false ∧ State.reset.bus.oamDmaCpu = false ∧
    State.reset.cpu.cycl ≠ State.reset.cpu.next ∧ ({ Cpu.atReset with jammed := true } : Cpu).jammed = true ∧
    ({ Cpu.atReset with cycl := 59998 } : Cpu).cycl < 59999 ∧
    ({ Cpu.atReset with cycl := 59999, next := 60000 } : Cpu).cycl = 59999 ∧
    60000 ≤ ({ Cpu.atReset with cycl := 59999, next := 60000 } : Cpu).next := by decide

theorem witness_InterruptPriority :
    (due (dueWith false true 0x24#8) ∧ (dueWith false true 0x24#8).cpu.i = true ∧
      (dueWith false true 0x24#8).bus.nmiSignal = false ∧ due (dueWith false false 0x20#8) ∧
      (dueWith false false 0x20#8).bus.irqLine = false ∧ (dueWith false false 0x20#8).bus.nmiSignal = false) ∧
    (due (dueWith true true 0x20#8) ∧ (dueWith true true 0x20#8).bus.irqLine = true ∧
      (dueWith true true 0x20#8).cpu.i = false ∧ (dueWith true true 0x20#8).bus.nmiSignal = true) ∧
    (due (dueWith true true 0x24#8) ∧ (dueWith true true 0x24#8).bus.nmiSignal = true ∧
      ¬ ((dueWith true true 0x24#8).bus.irqLine = true ∧ (dueWith true true 0x24#8).cpu.i = false)) := by
  decide

theorem witness_ReturnsUndoEntries : StatInv State.reset ∧ State.reset.bus.ram.wf = true := by
  unfold StatInv
  decide

theorem witness_JammedCpuIsFrozen :
    ({ State.reset with cpu := { Cpu.atReset with jammed := true } } : State).cpu.jammed = true := by decide

theorem witness_NmiRequestStaysUntilServiced : ∃ t u,
    step (dueWith true false 0x24#8) = .next t ∧ (dueWith true false 0x24#8).bus.nmiSignal = true ∧
    step { State.reset with bus := { Bus.atReset with nmiSignal := true } } = .next u :=
  ⟨_, _, rfl, rfl, rfl⟩

theorem witness_NeverStopsUnderNmos : State.reset.launch.unstablePolicy = .nmos := by decide

/-- A due state at an unstable opcode (SHX), under `UNSTABLE_POLICY = refuse`. -/
def atUnstable : State :=
  { start 0x00#8 0x00#8 0x00#8 0xFD#8 0x24#8 0xC000#16 [] [(0xC000, 0x9E#8)] with
    launch := { Launch.atReset with unstablePolicy := .refuse } }

theorem witness_RefusesOnlyUnstableOpcodes : step atUnstable = .refused (.unstableOpcode 0x9E#8) ∧
    atUnstable.launch.unstablePolicy = .refuse ∧ (unstableForms 0x00#8 0x0000#16).length = 8 :=
  ⟨rfl, rfl, rfl⟩

/-- A PPU with the reset memories and an empty frame keeps MemoryInv. -/
theorem memoryInv_withPpu (p : Ppu) (h : p.oam = [] ∧ p.nt = [] ∧ p.pal = [] ∧
    p.frame = List.replicate 240 []) : MemoryInv (withPpu fun _ => p) := by
  obtain ⟨h1, h2, h3, h4⟩ := h
  simp only [MemoryInv, withPpu, State.mapPpu, h1, h2, h3, h4]
  refine ⟨by decide, by decide, by decide, by decide, by decide, by decide, by decide, by decide, by decide,
    List.length_replicate, fun row hrow => ?_, by decide, by decide, by decide, by decide⟩
  rw [List.eq_of_mem_replicate hrow]
  decide

theorem reset_memoryInv : MemoryInv State.reset := memoryInv_withPpu Ppu.atReset ⟨rfl, rfl, rfl, rfl⟩

theorem witness_StepKeepsInvariants : ∃ t, step State.reset = .next t ∧ StatInv State.reset ∧
    CycleInv State.reset ∧ PpuInv State.reset ∧ MemoryInv State.reset :=
  ⟨_, rfl, by unfold StatInv; decide, by unfold CycleInv; decide, by unfold PpuInv; decide,
    reset_memoryInv⟩

theorem witness_BusDecode :
    (0x1FFF#16).toNat < 0x2000 ∧
    (0x2000 ≤ (0x2000#16).toNat ∧ (0x3FFF#16).toNat < 0x4000) ∧
    (0x4014#16).toNat = 0x4014 ∧ (0x4016#16).toNat = 0x4016 ∧
    (∀ a ∈ [0x4000#16, 0x4013#16, 0x4015#16, 0x4017#16, 0x401F#16],
      0x4000 ≤ a.toNat ∧ a.toNat < 0x4020 ∧ a.toNat ≠ 0x4014 ∧ a.toNat ≠ 0x4016) ∧
    (∀ a ∈ [0x4020#16, 0x7FFF#16], 0x4020 ≤ a.toNat ∧ a.toNat < 0x8000) ∧
    State.reset.launch.cartLowWindow = .unmapped ∧
    ({ Launch.atReset with cartLowWindow := .cartridge } : Launch).cartLowWindow = .cartridge ∧
    (0x8000 ≤ (0x8000#16).toNat ∧ 0x8000 ≤ (0xFFFF#16).toNat) := by simp [State.reset, Launch.atReset]

theorem witness_WordReads : ∃ l h h' : Byte × State, busRead 0xFFFF#16 State.reset = l ∧
    busRead (BitVec.ofNat 16 ((0xFFFF + 1) % 65536)) l.2 = h ∧
    busRead (BitVec.ofNat 16 (0xFFFF / 256 * 256 + (0xFFFF + 1) % 256)) l.2 = h' :=
  ⟨_, _, _, rfl, rfl, rfl⟩

theorem witness_PpuAddressSpace : MemoryInv State.reset ∧
    (0xDFFF#16).toNat % 16384 = 0x1FFF ∧ (0x6000#16).toNat % 16384 = 0x2000 ∧
    (0x3EFF#16).toNat % 16384 = 0x3EFF ∧ (0x3F00#16).toNat % 16384 = 0x3F00 ∧
    (0xFFFF#16).toNat % 16384 = 0x3FFF :=
  ⟨reset_memoryInv, by decide, by decide, by decide, by decide, by decide⟩

/-- A state whose $4014 has been written: from the last page of RAM's window. -/
def dmaArmed : State :=
  { State.reset with
    bus := { Bus.atReset with oamDmaCpu := true, oamDmaPpu := true, oamDmaAddr := 0x1F00#16 } }

theorem witness_OamDma : dmaArmed.bus.oamDmaCpu = true ∧ dmaArmed.cpu.jammed = false ∧ dmaArmed.bus.oamDmaPpu = true ∧
    dmaArmed.bus.oamDmaAddr.toNat + 255 < 0x2000 ∧ dmaArmed.ppu.oam.wf = true := by decide

theorem witness_PpuRegisters :
    [0x2000#16, 0x2001#16, 0x2002#16, 0x2003#16, 0x2004#16, 0x2005#16, 0x2006#16].map
      (fun a => a.toNat % 8) = [0, 1, 2, 3, 4, 5, 6] ∧
    [0x3FF8#16, 0x3FF9#16, 0x3FFA#16, 0x3FFB#16, 0x3FFC#16, 0x3FFD#16, 0x3FFE#16].map
      (fun a => a.toNat % 8) = [0, 1, 2, 3, 4, 5, 6] ∧
    0x2000 ≤ (0x2000#16).toNat ∧ (0x3FFE#16).toNat < 0x4000 := by decide

theorem witness_ScrollAndAddressWrites : (0x2005#16).toNat % 8 = 5 ∧ (0x3FFD#16).toNat % 8 = 5 ∧
    (0x2006#16).toNat % 8 = 6 ∧ (0x3FFE#16).toNat % 8 = 6 ∧ 0x2000 ≤ (0x2005#16).toNat ∧
    (0x3FFE#16).toNat < 0x4000 ∧ State.reset.ppu.w = false ∧
    (withPpu fun p => { p with w := true }).ppu.w = true := by decide

theorem witness_DataPort : 0x2000 ≤ (0x2007#16).toNat ∧ (0x3FFF#16).toNat < 0x4000 ∧
    (0x2007#16).toNat % 8 = 7 ∧ (0x3FFF#16).toNat % 8 = 7 ∧
    (withPpu fun p => { p with v := 0x3EFF#16 }).ppu.v.toNat % 16384 < 0x3F00 ∧
    0x3F00 ≤ (withPpu fun p => { p with v := 0x3F00#16 }).ppu.v.toNat % 16384 ∧
    0x3F00 ≤ (withPpu fun p => { p with v := 0x7FFF#16 }).ppu.v.toNat % 16384 := by decide

theorem witness_ControllerPort : State.reset.input.answers = [] ∧
    ({ InputDevice.atReset with answers := [0x01#8] } : InputDevice).answers = 0x01#8 :: [] := by decide

theorem witness_FrameTiming : PpuInv State.reset ∧ State.reset.ppu.rendering = false ∧
    ¬ skipsDot State.reset.ppu ∧
    ((ppuAt 261 340 0x00#8).scanline = 261 ∧ (ppuAt 261 340 0x00#8).dot = 340) ∧
    ¬ ((ppuAt 261 339 0x00#8).scanline = 261 ∧ (ppuAt 261 339 0x00#8).dot = 340) ∧
    skipsDot { ppuAt 0 0 0x08#8 with oddFrame := true } ∧ State.reset.bus.oamDmaPpu = false :=
  ⟨by unfold PpuInv; decide, by decide, by decide, by decide, by decide, by decide, by decide⟩

theorem witness_VblankFlags :
    ((ppuAt 241 1 0x00#8).scanline = 241 ∧ (ppuAt 241 1 0x00#8).dot = 1) ∧
    ((ppuAt 261 1 0x00#8).scanline = 261 ∧ (ppuAt 261 1 0x00#8).dot = 1) ∧
    ¬ ((ppuAt 241 2 0x00#8).scanline = 241 ∧ (ppuAt 241 2 0x00#8).dot = 1) ∧
    ¬ ((ppuAt 240 1 0x00#8).scanline = 241 ∧ (ppuAt 240 1 0x00#8).dot = 1) := by decide

theorem witness_ScrollUpdates : (withPpu fun _ => ppuAt 239 256 0x08#8).bus.oamDmaPpu = false ∧
    (∀ d ∈ [0, 8, 256, 257, 279, 280, 304, 305, 328, 336, 340],
      (ppuAt 239 d 0x08#8).rendering = true ∧ (ppuAt 261 d 0x10#8).rendering = true ∧
      ((ppuAt 239 d 0x08#8).scanline ≤ 239 ∨ (ppuAt 239 d 0x08#8).scanline = 261) ∧
      ((ppuAt 261 d 0x10#8).scanline ≤ 239 ∨ (ppuAt 261 d 0x10#8).scanline = 261)) := by decide

/-- The dots at which the clauses about a clock meet, on the first and last lines of each kind. -/
theorem witness_ownDot : ∀ l ∈ [0, 239, 240, 260, 261], ∀ d ∈ [0, 1, 256, 257, 265, 313, 320, 321, 336, 337, 340],
    ownDot (withPpu fun _ => ppuAt l d 0x18#8) := by decide

theorem witness_BackgroundFetches :
    (∀ d ∈ [0, 257, 320, 337, 340], ¬ ((1 ≤ d ∧ d ≤ 256) ∨ (321 ≤ d ∧ d ≤ 336))) ∧
    (∀ d ∈ [1, 3, 5, 7, 8, 256, 321, 323, 325, 327, 336], (1 ≤ d ∧ d ≤ 256) ∨ (321 ≤ d ∧ d ≤ 336)) ∧
    [1, 3, 5, 7, 8].map (fun d => (d - 1) % 8) = [0, 2, 4, 6, 7] ∧
    [249, 251, 253, 255, 256].map (fun d => (d - 1) % 8) = [0, 2, 4, 6, 7] ∧
    [321, 323, 325, 327, 336].map (fun d => (d - 1) % 8) = [0, 2, 4, 6, 7] ∧
    (∀ d ∈ [2, 4, 6, 334], (d - 1) % 8 ∈ [1, 3, 5]) := by decide

theorem witness_ShiftersCarryTheTile :
    (∀ d ∈ [1, 256, 321, 336], fetchDot (ppuAt 0 d 0x08#8) ∧ (ppuAt 0 d 0x08#8).showBg = true) ∧
    ¬ (fetchDot (ppuAt 0 1 0x10#8) ∧ (ppuAt 0 1 0x10#8).mask.getLsbD 3 = true) ∧
    (∀ d ∈ [0, 257, 320, 337], ¬ (fetchDot (ppuAt 0 d 0x08#8) ∧ (ppuAt 0 d 0x08#8).mask.getLsbD 3 = true)) := by
  decide

theorem witness_SpriteEvaluation : Ppu.atReset.nextSprites.length = 8 ∧
    (spritesInRange Ppu.atReset)[0]? = some 0 ∧ (spritesInRange Ppu.atReset)[7]? = some 7 := by decide

/-- A PPU on line 7 with one current sprite at Y = 0, X = 0 and a pattern. -/
def oneSprite : Ppu :=
  { ppuAt 7 9 0x18#8 with
    curCount := 1
    curSprites := ⟨⟨0x00#8, 0x01#8, 0x00#8, 0x00#8⟩, 0x80#8, 0x00#8, 0x00#8⟩ ::
      List.replicate 7 ⟨⟨0x00#8, 0x00#8, 0x00#8, 0x00#8⟩, 0x00#8, 0x00#8, 0x05#8⟩ }

theorem witness_SpriteSlots :
    (∀ i ∈ [0, 7], oneSprite.nextSprites[i]?.isSome ∧ oneSprite.curSprites[i]?.isSome) ∧
    (oneSprite.curCount ≤ 1 ∧ oneSprite.curCount ≤ 7 ∧ 0 < oneSprite.curCount) ∧
    (∀ slot, oneSprite.curSprites[0]? = some slot → slot.sprite.y.toNat ≤ oneSprite.scanline ∧
      oneSprite.scanline - slot.sprite.y.toNat < (if oneSprite.ctrl.getLsbD 5 then 16 else 8)) ∧
    oneSprite.mask.getLsbD 4 = true ∧ Ppu.atReset.mask.getLsbD 4 = false :=
  ⟨by decide, by decide, by rintro slot ⟨⟩; decide, by decide, by decide⟩

theorem witness_PixelSources :
    (oneSprite.mask.getLsbD 3 = true ∧ 8 ≤ oneSprite.dot - 1) ∧
    ¬ ((ppuAt 0 8 0x08#8).mask.getLsbD 3 = true ∧
      (8 ≤ (ppuAt 0 8 0x08#8).dot - 1 ∨ (ppuAt 0 8 0x08#8).mask.getLsbD 1 = true ∨ true = false)) ∧
    ¬ ((ppuAt 0 8 0x10#8).mask.getLsbD 4 = true ∧
      (8 ≤ (ppuAt 0 8 0x10#8).dot - 1 ∨ (ppuAt 0 8 0x10#8).mask.getLsbD 2 = true ∨ true = false)) ∧
    oneSprite.spritePixel true = some ⟨1#2, 0#2, false, 0⟩ ∧
    (oneSprite.mask.getLsbD 4 = true ∧ 8 ≤ oneSprite.dot - 1) ∧
    ((ppuAt 7 9 0x18#8).mask.getLsbD 4 = true ∧ 8 ≤ (ppuAt 7 9 0x18#8).dot - 1 ∧
      (ppuAt 7 9 0x18#8).spritePixel true = none) := by decide

theorem witness_PixelMixing : (1#2 : BitVec 2) ≠ 0#2 ∧ (3#2 : BitVec 2) ≠ 0#2 := by decide

theorem witness_PixelOutput_window : (ppuAt 241 0 0x18#8).scanline = 241 ∧ (ppuAt 241 0 0x18#8).dot = 0 ∧
    21 * 341 ≤ 21 * 341 := by decide

theorem witness_PixelOutput : MemoryInv State.reset ∧
    (∀ d ∈ [1, 256], pixelDot (ppuAt 0 d 0x00#8) ∧ pixelDot (ppuAt 239 d 0x00#8)) ∧
    (¬ pixelDot (ppuAt 0 257 0x00#8) ∧ ¬ pixelDot (ppuAt 240 1 0x00#8) ∧ ¬ pixelDot (ppuAt 261 1 0x00#8)) ∧
    MemoryInv (withPpu fun _ => ppuAt 239 256 0x00#8) :=
  ⟨reset_memoryInv, by decide, by decide, memoryInv_withPpu _ ⟨rfl, rfl, rfl, rfl⟩⟩

theorem witness_RenderingOff : State.reset.ppu.rendering = false ∧ State.reset.bus.oamDmaPpu = false := by
  decide

theorem witness_ResetWrites : (([(0, 0x11#8), (31, 0xFF#8)] : List Host.Cell).map Prod.fst).Nodup ∧
    (31, 0xFF#8) ∈ ([(0, 0x11#8), (31, 0xFF#8)] : List Host.Cell) := by decide

theorem witness_FirstFetchAfterReset : 0 ≤ 7 ∧ 7 ≤ 7 := by decide

end Sys2Proof.Tests
end

/-! SUPPORT. What an instruction is made of: every meaning is one of the access classes of R102, a stack
operation or a change of registers, each a chain of bus accesses and register changes. What the bus accesses
and the register changes keep, every instruction, interrupt entry and CPU clock keeps. -/

namespace Sys2Proof.Machine

/-! ### The shapes of a meaning -/

/-- The shapes that the meaning of an instruction can have, run on `s` (R102, R143, R152-R156, R181, R182,
R188). -/
inductive Meaning (s : State) : Result → Prop
  | read (o : Operand) (p : Bool) (n : Nat) (f : Byte → Cpu → Cpu) : Meaning s (readClass o p n f s)
  | write (o : Operand) (n : Nat) (g : Addr → Cpu → Byte) : Meaning s (writeClass o n g s)
  | modify (o : Operand) (n : Nat) (g : Byte → Cpu → Byte) (f : Byte → Byte → Cpu → Cpu) :
      Meaning s (modifyClass o n g f s)
  | implied (n : Nat) (f : Cpu → Cpu) : Meaning s (impliedClass n f s)
  | branch (cond : Cpu → Bool) (d : Byte) : Meaning s (branchIf cond d s)
  | jump (o : Operand) (n : Nat) : Meaning s (jump o n s)
  | push (v : Byte) (n : Nat) : Meaning s (.next ((push v s).busyFor n))
  | pull (f : Byte → Cpu → Cpu) (n : Nat) :
      Meaning s (.next (((pull s).2.mapCpu (f (pull s).1)).busyFor n))
  | call (ret target : Addr) (n : Nat) : Meaning s (.next (((pushAddr ret s).setPc target).busyFor n))
  | ret (n : Nat) : Meaning s (.next (((pullAddr s).2.setPc ((pullAddr s).1 + 1#16)).busyFor n))
  | enter (ret : Addr) (status : Byte) (vector : Addr) (n : Nat) :
      Meaning s (.next ((enterVia ret status vector s).busyFor n))
  | leave (n : Nat) : Meaning s (.next ((returnFromInterrupt s).busyFor n))
  | idle (n : Nat) : Meaning s (.next (s.busyFor n))
  | lockUp : Meaning s (lockUp s)
  | tas (o : Operand) (n : Nat) : Meaning s (tas o n s)
  | unstable (opcode : Byte) {run : Result} (h : Meaning s run) : Meaning s (unstable opcode s run)

/-! The families of R133, R134, R139-R142, R165-R170, R172, R179, R180 and R185, each over its class. -/

theorem Meaning.incMem (s : State) (o : Operand) (n : Nat) : Meaning s (incMem o n s) := .modify _ _ _ _
theorem Meaning.decMem (s : State) (o : Operand) (n : Nat) : Meaning s (decMem o n s) := .modify _ _ _ _
theorem Meaning.aslMem (s : State) (o : Operand) (n : Nat) : Meaning s (aslMem o n s) := .modify _ _ _ _
theorem Meaning.lsrMem (s : State) (o : Operand) (n : Nat) : Meaning s (lsrMem o n s) := .modify _ _ _ _
theorem Meaning.rolMem (s : State) (o : Operand) (n : Nat) : Meaning s (rolMem o n s) := .modify _ _ _ _
theorem Meaning.rorMem (s : State) (o : Operand) (n : Nat) : Meaning s (rorMem o n s) := .modify _ _ _ _
theorem Meaning.slo (s : State) (o : Operand) (n : Nat) : Meaning s (slo o n s) := .modify _ _ _ _
theorem Meaning.rla (s : State) (o : Operand) (n : Nat) : Meaning s (rla o n s) := .modify _ _ _ _
theorem Meaning.sre (s : State) (o : Operand) (n : Nat) : Meaning s (sre o n s) := .modify _ _ _ _
theorem Meaning.rra (s : State) (o : Operand) (n : Nat) : Meaning s (rra o n s) := .modify _ _ _ _
theorem Meaning.dcp (s : State) (o : Operand) (n : Nat) : Meaning s (dcp o n s) := .modify _ _ _ _
theorem Meaning.isb (s : State) (o : Operand) (n : Nat) : Meaning s (isb o n s) := .modify _ _ _ _
theorem Meaning.sax (s : State) (o : Operand) (n : Nat) : Meaning s (sax o n s) := .write _ _ _
theorem Meaning.sha (s : State) (o : Operand) (n : Nat) : Meaning s (sha o n s) := .write _ _ _
theorem Meaning.ignoreRead (s : State) (o : Operand) (p : Bool) (n : Nat) :
    Meaning s (ignoreRead o p n s) := .read _ _ _ _

/-- Every instruction's meaning has one of the shapes. -/
theorem exec_meaning (i : Instr) (s : State) : Meaning s (exec i s) := by
  unfold exec
  cases i with
  | ldaIzx | ldaZp | ldaImm | ldaAbs | ldaIzy | ldaZpx | ldaAby | ldaAbx
  | ldxImm | ldxZp | ldxAbs | ldxZpy | ldxAby | ldyImm | ldyZp | ldyAbs | ldyZpx | ldyAbx
  | laxIzx | laxZp | laxAbs | laxIzy | laxZpy | laxAby
  | adcIzx | adcZp | adcImm | adcAbs | adcIzy | adcZpx | adcAby | adcAbx
  | sbcIzx | sbcZp | sbcImm | sbcAbs | sbcIzy | sbcZpx | sbcAby | sbcAbx | sbcImmEB
  | andIzx | andZp | andImm | andAbs | andIzy | andZpx | andAby | andAbx
  | oraIzx | oraZp | oraImm | oraAbs | oraIzy | oraZpx | oraAby | oraAbx
  | eorIzx | eorZp | eorImm | eorAbs | eorIzy | eorZpx | eorAby | eorAbx
  | cmpIzx | cmpZp | cmpImm | cmpAbs | cmpIzy | cmpZpx | cmpAby | cmpAbx
  | cpxImm | cpxZp | cpxAbs | cpyImm | cpyZp | cpyAbs | bitZp | bitAbs
  | aacImm0B | aacImm2B | asrImm | arrImm | axsImm => exact .read _ _ _ _
  | nopImm80 | nopImm82 | nopImm89 | nopImmC2 | nopImmE2 | nopZp04 | nopZp44 | nopZp64
  | nopZpx14 | nopZpx34 | nopZpx54 | nopZpx74 | nopZpxD4 | nopZpxF4
  | nopAbs | nopAbx1C | nopAbx3C | nopAbx5C | nopAbx7C | nopAbxDC | nopAbxFC => exact .ignoreRead _ _ _ _
  | staIzx | staZp | staAbs | staIzy | staZpx | staAby | staAbx | stxZp | stxAbs | stxZpy
  | styZp | styAbs | styZpx => exact .write _ _ _
  | saxIzx | saxZp | saxAbs | saxZpy => exact .sax _ _ _
  | incZp | incAbs | incZpx | incAbx => exact .incMem _ _ _
  | decZp | decAbs | decZpx | decAbx => exact .decMem _ _ _
  | aslZp | aslAbs | aslZpx | aslAbx => exact .aslMem _ _ _
  | lsrZp | lsrAbs | lsrZpx | lsrAbx => exact .lsrMem _ _ _
  | rolZp | rolAbs | rolZpx | rolAbx => exact .rolMem _ _ _
  | rorZp | rorAbs | rorZpx | rorAbx => exact .rorMem _ _ _
  | sloIzx | sloZp | sloAbs | sloIzy | sloZpx | sloAby | sloAbx => exact .slo _ _ _
  | rlaIzx | rlaZp | rlaAbs | rlaIzy | rlaZpx | rlaAby | rlaAbx => exact .rla _ _ _
  | sreIzx | sreZp | sreAbs | sreIzy | sreZpx | sreAby | sreAbx => exact .sre _ _ _
  | rraIzx | rraZp | rraAbs | rraIzy | rraZpx | rraAby | rraAbx => exact .rra _ _ _
  | dcpIzx | dcpZp | dcpAbs | dcpIzy | dcpZpx | dcpAby | dcpAbx => exact .dcp _ _ _
  | isbIzx | isbZp | isbAbs | isbIzy | isbZpx | isbAby | isbAbx => exact .isb _ _ _
  | tax | tay | txa | tya | tsx | txs | inx | iny | dex | dey | aslAcc | lsrAcc | rolAcc | rorAcc
  | clc | sec | cli | sei | clv | cld | sed => exact .implied _ _
  | bpl | bmi | bvc | bvs | bcc | bcs | bne | beq => exact .branch _ _
  | jmpAbs | jmpInd => exact .jump _ _
  | pha | php => exact .push _ _
  | pla => exact .pull Cpu.loadA _
  | plp => exact .pull Cpu.loadStat _
  | jsrAbs => exact .call _ _ _
  | rts => exact .ret _
  | brk => exact .enter _ _ _ _
  | rti => exact .leave _
  | nop | nop1A | nop3A | nop5A | nop7A | nopDA | nopFA => exact .idle _
  | kil02 | kil12 | kil22 | kil32 | kil42 | kil52 | kil62 | kil72 | kil92 | kilB2 | kilD2 | kilF2 =>
    exact .lockUp
  | aneImm | lxaImm | lasAby => exact .unstable _ (.read _ _ _ _)
  | shaIzy | shaAby => exact .unstable _ (.sha _ _ _)
  | shxAby | shyAbx => exact .unstable _ (.write _ _ _)
  | tasAby => exact .unstable _ (.tas _ _)

/-! ### What the bus keeps, the CPU keeps -/

/-- The next state of a result, where there is one, meets `P`. -/
def Yields (P : State → Prop) (r : Result) : Prop := ∀ t, r = .next t → P t

theorem yields_next {P : State → Prop} {s : State} (h : P s) : Yields P (.next s) := by
  rintro _ ⟨⟩
  exact h

theorem yields_fault {P : State → Prop} {x : Fault} : Yields P (.fault x) := by
  rintro _ ⟨⟩

theorem yields_refused {P : State → Prop} {x : Refusal} : Yields P (.refused x) := by
  rintro _ ⟨⟩

/-- A predicate that looks at no register and at no line of the bus, and that every bus access keeps. -/
structure BusKeeps (P : State → Prop) : Prop where
  cpu {s : State} (f : Cpu → Cpu) : P s → P (s.mapCpu f)
  lines {s : State} {b : Bus} (hb : b.ram = s.bus.ram) : P s → P { s with bus := b }
  read {s : State} (a : Addr) : P s → P (busRead a s).2
  write {s : State} (a : Addr) (v : Byte) : P s → P (busWrite a v s)

namespace BusKeeps

variable {P : State → Prop} {s : State} (k : BusKeeps P)

include k

protected theorem setPc (a : Addr) (h : P s) : P (s.setPc a) := k.cpu _ h

protected theorem busyFor (n : Nat) (h : P s) : P (s.busyFor n) := k.cpu _ h

protected theorem readWord (a : Addr) (h : P s) : P (readWord a s).2 := k.read _ (k.read _ h)

protected theorem readWordWrap (a : Addr) (h : P s) : P (readWordWrap a s).2 :=
  k.read _ (k.read _ h)

protected theorem resolve (o : Operand) (p : Bool) (h : P s) : P (resolve o p s).state := by
  cases o with
  | izx | izy | ind => exact k.readWordWrap _ h
  | imm | zp | zpx | zpy | rel | abs | abx | aby => exact h

protected theorem operandByte (o : Operand) (r : Resolved) (h : P r.state) :
    P (operandByte o r).2 := by
  cases o with
  | imm => exact h
  | _ => exact k.read _ h

protected theorem push (v : Byte) (h : P s) : P (push v s) := k.cpu _ (k.write _ _ h)

protected theorem pull (h : P s) : P (pull s).2 := k.read _ (k.cpu _ h)

protected theorem pushAddr (a : Addr) (h : P s) : P (pushAddr a s) := k.push _ (k.push _ h)

protected theorem pullAddr (h : P s) : P (pullAddr s).2 := k.pull (k.pull h)

protected theorem enterVia (ret : Addr) (status : Byte) (vector : Addr) (h : P s) :
    P (enterVia ret status vector s) := by
  unfold enterVia
  exact k.setPc _ (k.readWord _ (k.cpu _ (k.push _ (k.pushAddr _ h))))

protected theorem returnFromInterrupt (h : P s) : P (returnFromInterrupt s) := by
  unfold returnFromInterrupt
  exact k.setPc _ (k.pullAddr (k.cpu _ (k.pull h)))

protected theorem writeClass (o : Operand) (n : Nat) (g : Addr → Cpu → Byte) (h : P s) :
    Yields P (writeClass o n g s) :=
  yields_next (k.busyFor _ (k.write _ _ (k.resolve _ _ h)))

/-- What the bus keeps, every shape of a meaning keeps. -/
protected theorem meaning (h : P s) {r : Result} (m : Meaning s r) : Yields P r := by
  induction m with
  | read => exact yields_next (k.busyFor _ (k.cpu _ (k.operandByte _ _ (k.resolve _ _ h))))
  | write => exact k.writeClass _ _ _ h
  | modify => exact yields_next (k.busyFor _ (k.cpu _ (k.write _ _ (k.read _ (k.resolve _ _ h)))))
  | implied => exact yields_next (k.busyFor _ (k.cpu _ h))
  | branch =>
    unfold branchIf
    split
    · exact yields_next (k.busyFor _ (k.setPc _ h))
    · exact yields_next (k.busyFor _ h)
  | jump => exact yields_next (k.busyFor _ (k.setPc _ (k.resolve _ _ h)))
  | push => exact yields_next (k.busyFor _ (k.push _ h))
  | pull => exact yields_next (k.busyFor _ (k.cpu _ (k.pull h)))
  | call => exact yields_next (k.busyFor _ (k.setPc _ (k.pushAddr _ h)))
  | ret => exact yields_next (k.busyFor _ (k.setPc _ (k.pullAddr h)))
  | enter => exact yields_next (k.busyFor _ (k.enterVia _ _ _ h))
  | leave => exact yields_next (k.busyFor _ (k.returnFromInterrupt h))
  | idle => exact yields_next (k.busyFor _ h)
  | lockUp => exact yields_next (k.busyFor _ (k.cpu _ h))
  | tas => exact k.writeClass _ _ _ (k.cpu _ h)
  | unstable _ _ ih =>
    unfold unstable
    split
    · exact yields_refused
    · exact ih

/-- What the bus keeps, every instruction keeps. -/
protected theorem exec (i : Instr) (h : P s) : Yields P (exec i s) :=
  k.meaning h (exec_meaning i s)

protected theorem fetchByte (h : P s) : P (fetchByte s).2 :=
  k.cpu (fun c => { c with pc := c.pc + 1#16 }) (k.read s.cpu.pc h)

protected theorem fetchBytes (n : Nat) (h : P s) : P (fetchBytes n s).2 := by
  induction n generalizing s with
  | zero => exact h
  | succ n ih => exact ih (k.fetchByte h)

protected theorem fetchInstr (h : P s) : P (fetchInstr s).2 := k.fetchBytes _ (k.fetchByte h)

protected theorem enterInterrupt (i : Interrupt) (h : P s) : P (enterInterrupt i s) :=
  k.cpu _ (k.enterVia _ _ _ h)

protected theorem takeInterrupt (i : Interrupt) (h : P s) : P (takeInterrupt i s) := by
  cases i with
  | irq => exact k.enterInterrupt _ h
  | nmi => exact k.enterInterrupt _ (k.lines rfl h)

protected theorem dmaStall (h : P s) : P (dmaStall s) := by
  obtain ⟨-, e⟩ | ⟨-, e⟩ := dmaStall_cases s <;> rw [e]
  · exact h
  · exact k.lines (s := s.mapCpu fun c => { c with next := c.next + 513 + c.cycl % 2 }) rfl (k.cpu _ h)

/-- What the bus keeps, the CPU's clock keeps. -/
protected theorem cpuClock (h : P s) : Yields P (cpuClock s) := by
  have hd := k.dmaStall h
  obtain ⟨-, e⟩ | ⟨-, -, e⟩ | ⟨-, -, i, -, e⟩ | ⟨-, -, -, e⟩ := cpuClock_cases s <;> rw [e]
  · exact yields_next h
  · exact yields_next (k.cpu _ hd)
  · exact yields_next (k.cpu _ (k.takeInterrupt i hd))
  · have hx := k.exec (fetchInstr (dmaStall s)).1 (k.fetchInstr hd)
    generalize exec _ _ = r at hx ⊢
    cases r with
    | next t => exact yields_next (k.cpu _ (hx t rfl))
    | fault => exact yields_fault
    | refused => exact yields_refused

/-- What the bus and the PPU's clock keep, a step keeps. -/
protected theorem step (hp : ∀ s, P s → P (ppuClock s)) (h : P s) : Yields P (step s) := by
  have hc := k.cpuClock h
  unfold step tick
  generalize cpuClock s = r at hc ⊢
  cases r with
  | next t => exact yields_next (hp _ (hp _ (hp _ (hc t rfl))))
  | fault => exact yields_fault
  | refused => exact yields_refused

end BusKeeps

end Sys2Proof.Machine

/-! SUPPORT. The ranges of the PPU's counters and fields (R10, R35, R40, R42), kept by every access to its
registers and by every stage of its clock. -/

namespace Sys2Proof.Machine

/-! ### The ranges, as facts about the PPU alone -/

/-- The PPU's counters and fields are in their ranges (R10, R35, R40, R42): `PpuInv`, with its parts named. -/
structure Ppu.InRanges (p : Ppu) : Prop where
  scanline : p.scanline < 262
  dot : p.dot < 341
  v : p.v.getLsbD 15 = false
  t : p.t.getLsbD 15 = false
  nextSprites : p.nextSprites.length = 8
  curSprites : p.curSprites.length = 8
  nextCount : p.nextCount ≤ 8
  curCount : p.curCount ≤ 8

theorem ppuInv_iff (s : State) : PpuInv s ↔ s.ppu.InRanges :=
  ⟨fun ⟨hl, hd, hv, ht, hns, hcs, hnc, hcc⟩ => ⟨hl, hd, hv, ht, hns, hcs, hnc, hcc⟩,
    fun ⟨hl, hd, hv, ht, hns, hcs, hnc, hcc⟩ => ⟨hl, hd, hv, ht, hns, hcs, hnc, hcc⟩⟩

/-! ### Bit 15 of the scroll registers (R35) -/

theorem scrollOf_bit15 (fy : BitVec 3) (ny nx : BitVec 1) (cy cx : BitVec 5) :
    (scrollOf fy ny nx cy cx).getLsbD 15 = false := by
  simp only [scrollOf, BitVec.getLsbD_append]
  simp

theorem incX_bit15 (v : Addr) : (incX v).getLsbD 15 = false := by
  unfold incX
  split <;> exact scrollOf_bit15 ..

theorem incY_bit15 (v : Addr) : (incY v).getLsbD 15 = false := by
  unfold incY
  split
  · exact scrollOf_bit15 ..
  split
  · exact scrollOf_bit15 ..
  split <;> exact scrollOf_bit15 ..

theorem copyH_bit15 (v t : Addr) : (copyH v t).getLsbD 15 = v.getLsbD 15 := by
  simp [copyH]

theorem copyV_bit15 (v t : Addr) : (copyV v t).getLsbD 15 = v.getLsbD 15 := by
  simp [copyV]

/-- An update that is made under a condition. -/
theorem ite_bit15 {c : Prop} [Decidable c] {v w : Addr} (hv : v.getLsbD 15 = false)
    (hw : w.getLsbD 15 = false) : (if c then v else w).getLsbD 15 = false :=
  iteInduction (motive := fun u : Addr => u.getLsbD 15 = false) (fun _ => hv) fun _ => hw

/-! ### The registers -/

namespace Ppu.InRanges

variable {p : Ppu}

theorem afterStatusRead (h : p.InRanges) : p.afterStatusRead.InRanges := { h with }

theorem advanceV (h : p.InRanges) : p.advanceV.InRanges := { h with v := by simp [Ppu.advanceV] }

theorem writeOamData (h : p.InRanges) (b : Byte) : (p.writeOamData b).InRanges := { h with }

theorem writeScroll (h : p.InRanges) (b : Byte) : (p.writeScroll b).InRanges := by
  unfold Ppu.writeScroll
  split
  · exact { h with t := by simp [zext16] }
  · exact { h with t := by simp [zext16] }

theorem writeAddr (h : p.InRanges) (b : Byte) : (p.writeAddr b).InRanges := by
  unfold Ppu.writeAddr
  split
  · exact { h with v := by simp [zext16], t := by simp [zext16] }
  · exact { h with t := by simp [zext16] }

end Ppu.InRanges

theorem writePpuCtrl_inRanges {s : State} (h : s.ppu.InRanges) (b : Byte) :
    (writePpuCtrl b s).ppu.InRanges :=
  { h with t := by simp [writePpuCtrl, zext16] }

theorem ppuWrite_inRanges {s : State} (h : s.ppu.InRanges) (a : Addr) (b : Byte) :
    (ppuWrite a b s).ppu.InRanges := by
  obtain e | e | e := ppuWrite_cases a b s <;> rw [e]
  · exact h
  · exact { h with }
  · exact { h with }

theorem ppuRegWrite_inRanges {s : State} (h : s.ppu.InRanges) (r : Nat) (b : Byte) :
    (ppuRegWrite r b s).ppu.InRanges := by
  obtain e | e | ⟨f, e, rfl | rfl | rfl | rfl | rfl⟩ | e := ppuRegWrite_cases r b s <;> rw [e]
  · exact h
  · exact writePpuCtrl_inRanges h b
  · exact { h with }
  · exact { h with }
  · exact h.writeOamData b
  · exact h.writeScroll b
  · exact h.writeAddr b
  · exact (ppuWrite_inRanges h _ b).advanceV

/-- Every bus access keeps the ranges. -/
theorem busKeeps_inRanges : BusKeeps fun s => s.ppu.InRanges where
  cpu _ h := h
  lines _ h := h
  read {s} a h := by
    obtain e | e | e | ⟨b, e⟩ | e := busRead_cases a s <;> rw [e]
    · exact h
    · exact h.afterStatusRead
    · exact { h with }
    · exact Ppu.InRanges.advanceV { h with }
    · exact h
  write {s} a v h := by
    obtain ⟨-, e⟩ | ⟨-, e | e | e | e | e⟩ := busWrite_cases a v s <;> rw [e]
    · exact h
    · exact ppuRegWrite_inRanges h _ v
    · exact h
    · exact h
    · exact h
    · exact h

/-! ### The OAM-DMA copy -/

theorem dmaBytes_inRanges {s : State} (h : s.ppu.InRanges) (k i : Nat) : (dmaBytes k i s).ppu.InRanges := by
  induction k generalizing i s with
  | zero => exact h
  | succ k ih =>
    have hb : (dmaByte i s).ppu.InRanges := { busKeeps_inRanges.read _ h with }
    exact ih hb (i + 1)

theorem dmaDrain_inRanges {s : State} (h : s.ppu.InRanges) : (dmaDrain s).ppu.InRanges := by
  unfold dmaDrain
  split
  · exact dmaBytes_inRanges h 256 0
  · exact h

/-! ### The stages of a dot -/

theorem length_transferSlots (count : Nat) (next : List Sprite) (cur : List SpriteSlot) :
    (transferSlots count next cur).length = cur.length := by
  induction next generalizing count cur with
  | nil => rfl
  | cons sp next ih =>
    cases cur with
    | nil => rfl
    | cons slot cur => simp [transferSlots, ih]

theorem length_shiftSlots (count : Nat) (slots : List SpriteSlot) :
    (shiftSlots count slots).length = slots.length := by
  simp only [shiftSlots, List.length_append, List.length_map, List.length_take, List.length_drop]
  omega

namespace Ppu.InRanges

variable {p : Ppu}

theorem oddSkip (h : p.InRanges) : p.oddSkip.InRanges := by
  unfold Ppu.oddSkip
  split
  · exact { h with dot := by simp }
  · exact h

/-- The counters wrap at 341 dots and 262 lines (R208). -/
theorem advance (h : p.InRanges) : p.advance.InRanges := by
  have hd := h.dot
  have hl := h.scanline
  unfold Ppu.advance
  split
  · split
    · exact { h with scanline := by simp, dot := by simp }
    · exact { h with scanline := by simp only; omega, dot := by simp }
  · exact { h with dot := by simp only; omega }

theorem preRenderClear (h : p.InRanges) : p.preRenderClear.InRanges := { h with }

theorem reloadShifters (h : p.InRanges) : p.reloadShifters.InRanges := by
  obtain ⟨a, b, c, d, e⟩ := p.reloadShifters_fields
  rw [e]
  exact { h with }

theorem scrollUpdates (h : p.InRanges) : p.scrollUpdates.InRanges := by
  unfold Ppu.scrollUpdates
  extract_lets v1 v2 v3
  have h1 : v1.getLsbD 15 = false := ite_bit15 (incY_bit15 _) h.v
  have h2 : v2.getLsbD 15 = false := ite_bit15 ((copyH_bit15 _ _).trans h1) h1
  have h3 : v3.getLsbD 15 = false := ite_bit15 ((copyV_bit15 _ _).trans h2) h2
  split
  · exact { h with v := h3 }
  · exact h

theorem backgroundShift (h : p.InRanges) : p.backgroundShift.InRanges := by
  obtain ⟨a, b, c, d, e⟩ := p.backgroundShift_fields
  rw [e]
  exact { h with }

/-- The scan stages a sprite only while fewer than 8 are staged (R222). -/
theorem scanOam (h : p.InRanges) (k n : Nat) : (Ppu.scanOam k n p).InRanges := by
  induction k generalizing n p with
  | zero => exact h
  | succ k ih =>
    unfold Ppu.scanOam
    split
    · split
      · refine ih ?_ _
        exact { h with
          nextSprites := List.length_set.trans h.nextSprites
          nextCount := Nat.succ_le_of_lt ‹p.nextCount < 8› }
      · exact { h with }
    · exact ih h _

theorem spriteEvaluate (h : p.InRanges) : p.spriteEvaluate.InRanges :=
  scanOam (p := { p with nextCount := 0, nextSprite0 := false }) { h with nextCount := by simp } 64 0

theorem spriteTransfer (h : p.InRanges) : p.spriteTransfer.InRanges :=
  { h with
    curSprites := (length_transferSlots ..).trans h.curSprites
    curCount := h.nextCount
    nextCount := Nat.zero_le 8 }

theorem spriteShift (h : p.InRanges) : p.spriteShift.InRanges := by
  unfold Ppu.spriteShift
  split
  · exact { h with curSprites := (length_shiftSlots ..).trans h.curSprites }
  · exact h

end Ppu.InRanges

theorem backgroundFetch_inRanges {s : State} (h : s.ppu.InRanges) : (backgroundFetch s).ppu.InRanges := by
  unfold backgroundFetch
  split
  · split
    · exact { h.reloadShifters with }
    · exact { h with }
    · exact { h with }
    · exact { h with }
    · split
      · exact { h with v := incX_bit15 _ }
      · exact h
    · exact h
  · exact h

theorem spriteFetch_inRanges {s : State} (h : s.ppu.InRanges) (i : Nat) : (spriteFetch i s).ppu.InRanges :=
  { h with curSprites := by simp [spriteFetch, h.curSprites] }

/-- A stage that runs under a condition keeps what the stage keeps. -/
theorem ite_inRanges {c : Prop} [Decidable c] {s t : State} (ht : t.ppu.InRanges) (hs : s.ppu.InRanges) :
    (if c then t else s).ppu.InRanges :=
  iteInduction (motive := fun u : State => u.ppu.InRanges) (fun _ => ht) fun _ => hs

theorem spriteLoads_inRanges {s : State} (h : s.ppu.InRanges) : (spriteLoads s).ppu.InRanges := by
  unfold spriteLoads
  extract_lets s1
  have h1 : s1.ppu.InRanges := ite_inRanges h.spriteTransfer h
  exact ite_inRanges (ite_inRanges (spriteFetch_inRanges h1 _) h1) h

theorem outputPixel_inRanges {s : State} (h : s.ppu.InRanges) : (outputPixel s).ppu.InRanges := { h with }

theorem lineWork_inRanges {s : State} (h : s.ppu.InRanges) : (lineWork s).ppu.InRanges := by
  unfold lineWork
  extract_lets s1 s2 s3 s4 s5
  have h1 : s1.ppu.InRanges := ite_inRanges h.preRenderClear h
  have h2 : s2.ppu.InRanges := spriteLoads_inRanges (backgroundFetch_inRanges h1).scrollUpdates
  have h3 : s3.ppu.InRanges := ite_inRanges (outputPixel_inRanges h2) h2
  have h4 : s4.ppu.InRanges := ite_inRanges h3.spriteEvaluate h3
  have h5 : s5.ppu.InRanges := h4.backgroundShift
  exact ite_inRanges h5.spriteShift h5

theorem dotWork_inRanges {s : State} (h : s.ppu.InRanges) : (dotWork s).ppu.InRanges := by
  unfold dotWork
  exact ite_inRanges (lineWork_inRanges h) (ite_inRanges { h with } h)

/-- A PPU clock keeps the ranges. -/
theorem ppuClock_inRanges (s : State) (h : s.ppu.InRanges) : (ppuClock s).ppu.InRanges :=
  (dotWork_inRanges (s := (dmaDrain s).mapPpu Ppu.oddSkip) (dmaDrain_inRanges h).oddSkip).advance

/-- Settles O37: every bus access and every stage of the PPU's clock keeps the ranges, and a step is a chain of
them. -/
theorem stepKeepsPpuRanges : Obligations.StepKeepsPpuRanges := by
  intro s t h ht
  rw [ppuInv_iff] at h ⊢
  exact busKeeps_inRanges.step ppuClock_inRanges h t ht

end Sys2Proof.Machine

/-! SUPPORT. What a chain of pushes may change (R14, R21): the stack slots it writes, and SP. -/

namespace Sys2Proof.Machine

open Sys2Proof.Claims

/-- A slot's address as the spec writes it, `0x0100 | SP` (R21). -/
theorem stackAddr_eq_or (sp : Byte) : stackAddr sp = 0x0100#16 ||| zext16 sp := by
  revert sp; decide

/-- A push changes no byte of memory but that of its slot. -/
theorem byteAt_push {a : Addr} {s : State} (v : Byte) (h : ¬ sameByte a (stackAddr s.cpu.sp)) :
    byteAt a (push v s) = byteAt a s := by
  simp only [byteAt, push_eq]
  split
  · rename_i ha
    simp only [sameByte, ha, stackAddr_ult, and_self, if_true] at h
    exact Memory.get_put_of_ne _ v (ramCell_stackAddr s.cpu.sp ▸ h)
  · rfl

/-- `t` is `s` after `n` bytes were pushed: apart from the slots pushed to, from SP down, memory, the PPU, the
cartridge and the input device are as they were. -/
structure Pushed (n : Nat) (s t : State) : Prop where
  byteAt (a : Addr) : (∀ k < n, ¬ sameByte a (stackAddr (s.cpu.sp - BitVec.ofNat 8 k))) →
    byteAt a t = byteAt a s
  sp : t.cpu.sp = s.cpu.sp - BitVec.ofNat 8 n
  ppu : t.ppu = s.ppu
  cart : t.cart = s.cart
  input : t.input = s.input

namespace Pushed

variable {n : Nat} {s t : State}

theorem zero (s : State) : Pushed 0 s s := ⟨fun _ _ => rfl, by simp, rfl, rfl, rfl⟩

protected theorem push (h : Pushed n s t) (v : Byte) : Pushed (n + 1) s (push v t) where
  byteAt a ha := by
    have hn := ha n (Nat.lt_succ_self n)
    rw [← h.sp] at hn
    rw [byteAt_push v hn, h.byteAt a fun k hk => ha k (Nat.lt_succ_of_lt hk)]
  sp := by simp [push_eq, h.sp, BitVec.ofNat_add, BitVec.sub_sub]
  ppu := by simp [push_eq, h.ppu]
  cart := by simp [push_eq, h.cart]
  input := by simp [push_eq, h.input]

protected theorem pushAddr (h : Pushed n s t) (a : Addr) : Pushed (n + 2) s (pushAddr a t) :=
  (h.push _).push _

/-- A change of registers other than SP. -/
protected theorem mapCpu (h : Pushed n s t) {f : Cpu → Cpu} (hf : (f t.cpu).sp = t.cpu.sp) :
    Pushed n s (t.mapCpu f) :=
  ⟨h.byteAt, hf.trans h.sp, h.ppu, h.cart, h.input⟩

protected theorem setPc (h : Pushed n s t) (a : Addr) : Pushed n s (t.setPc a) := h.mapCpu rfl

protected theorem busyFor (h : Pushed n s t) (m : Nat) : Pushed n s (t.busyFor m) := h.mapCpu rfl

/-- An entry pushes the return address and the status; the vector is read from the cartridge. -/
protected theorem enterVia (h : Pushed n s t) (ret : Addr) (status : Byte) :
    Pushed (n + 3) s (enterVia ret status irqVector t) := by
  have hv : irqVector = Interrupt.irq.vector := rfl
  unfold enterVia
  simp only [hv, readWord_vector]
  exact (((h.pushAddr ret).push status).mapCpu rfl).setPc _

end Pushed

/-- The four instructions that push. -/
theorem cases_of_pushCount_pos {i : Instr} (h : 0 < pushCount i) :
    i = .pha ∨ i = .php ∨ i = .brk ∨ ∃ a, i = .jsrAbs a := by
  cases i with
  | pha => exact .inl rfl
  | php => exact .inr (.inl rfl)
  | brk => exact .inr (.inr (.inl rfl))
  | jsrAbs a => exact .inr (.inr (.inr ⟨a, rfl⟩))
  | _ => simp [pushCount, Instr.row] at h

/-- An instruction that pushes does nothing else to memory. -/
theorem exec_pushed {i : Instr} {s t : State} (h : 0 < pushCount i) (ht : exec i s = .next t) :
    Pushed (pushCount i) s t := by
  obtain rfl | rfl | rfl | ⟨a, rfl⟩ := cases_of_pushCount_pos h <;> obtain rfl := Host.Outcome.next.inj ht
  · exact ((Pushed.zero s).push _).busyFor 3
  · exact ((Pushed.zero s).push _).busyFor 3
  · exact ((Pushed.zero s).enterVia _ _).busyFor 7
  · exact (((Pushed.zero s).pushAddr _).setPc a).busyFor 6

/-- Settles O20: the pushing instructions are PHA, PHP, JSR and BRK, each a chain of pushes and register
changes. -/
theorem pushesTouchOnlyTheirSlots : Obligations.PushesTouchOnlyTheirSlots := by
  intro i s t hi ht
  obtain ⟨hbyte, hsp, hppu, hcart, hinput⟩ := exec_pushed hi ht
  simp only [stackAddr_eq_or] at hbyte
  exact ⟨hbyte, hsp, hppu, hcart, hinput⟩

end Sys2Proof.Machine

/-! SUPPORT. What a PPU clock leaves alone outside the PPU, and how a step's clocks chain: shared by the
invariants of the CPU, of its cycle counters and of the memories. -/

namespace Sys2Proof.Machine

/-! ### What a PPU clock leaves alone -/

/-- `t` is `s` but for the PPU. -/
def PpuOnly (s t : State) : Prop := ∃ p, t = { s with ppu := p }

namespace PpuOnly

variable {s t u : State}

theorem refl (s : State) : PpuOnly s s := ⟨s.ppu, rfl⟩

theorem trans (h : PpuOnly s t) (h' : PpuOnly t u) : PpuOnly s u := by
  obtain ⟨p, rfl⟩ := h
  obtain ⟨q, rfl⟩ := h'
  exact ⟨q, rfl⟩

theorem mapPpu (f : Ppu → Ppu) (s : State) : PpuOnly s (s.mapPpu f) := ⟨f s.ppu, rfl⟩

/-- A stage that runs under a condition. -/
theorem ite {c : Prop} [Decidable c] (h : PpuOnly s t) : PpuOnly s (if c then t else s) :=
  iteInduction (motive := PpuOnly s) (fun _ => h) fun _ => refl s

end PpuOnly

theorem lineWork_ppuOnly (s : State) : PpuOnly s (lineWork s) := by
  unfold lineWork
  extract_lets s1 s2 s3 s4 s5
  have h1 : PpuOnly s s1 := .ite (.mapPpu _ s)
  have h2 : PpuOnly s1 s2 := .trans (backgroundFetch_ppu s1) (.trans (.mapPpu _ _) (spriteLoads_ppu _))
  have h3 : PpuOnly s2 s3 := .ite (outputPixel_ppu s2)
  have h4 : PpuOnly s3 s4 := .ite (.mapPpu _ s3)
  have h5 : PpuOnly s4 s5 := .mapPpu _ s4
  exact h1.trans (h2.trans (h3.trans (h4.trans (h5.trans (.ite (.mapPpu _ s5))))))

/-- A dot's work changes the PPU and, at the start of vblank, the NMI request (R207, R211). -/
theorem dotWork_frame (s : State) : (dotWork s).cpu = s.cpu ∧ (dotWork s).cart = s.cart ∧
    (dotWork s).launch = s.launch ∧ ∃ b, (dotWork s).bus = { s.bus with nmiSignal := b } := by
  unfold dotWork
  split
  · obtain ⟨p, e⟩ := lineWork_ppuOnly s
    rw [e]
    exact ⟨rfl, rfl, rfl, s.bus.nmiSignal, rfl⟩
  · split
    · exact ⟨rfl, rfl, rfl, _, rfl⟩
    · exact ⟨rfl, rfl, rfl, s.bus.nmiSignal, rfl⟩

/-- A PPU clock leaves the CPU, the cartridge and the launch alone, and of the bus changes the NMI request and
its own half of the OAM-DMA handshake. -/
theorem ppuClock_frame (s : State) : (ppuClock s).cpu = s.cpu ∧ (ppuClock s).cart = s.cart ∧
    (ppuClock s).launch = s.launch ∧
    ∃ b, (ppuClock s).bus = { s.bus with oamDmaPpu := false, nmiSignal := b } := by
  obtain ⟨hcpu, hcart, hlaunch, hbus⟩ := dmaDrain_frame s
  obtain ⟨hcpu', hcart', hlaunch', b, hbus'⟩ := dotWork_frame ((dmaDrain s).mapPpu Ppu.oddSkip)
  refine ⟨hcpu'.trans hcpu, hcart'.trans hcart, hlaunch'.trans hlaunch, b, hbus'.trans ?_⟩
  simp only [State.mapPpu_bus, hbus]

/-! ### The chain of a step -/

/-- What the CPU's clock yields and a PPU clock keeps, a step yields. -/
theorem yields_step {P : State → Prop} {s : State} (hp : ∀ s, P s → P (ppuClock s))
    (hc : Yields P (cpuClock s)) : Yields P (step s) := by
  unfold step tick
  generalize cpuClock s = r at hc ⊢
  cases r with
  | next t => exact yields_next (hp _ (hp _ (hp _ (hc t rfl))))
  | fault => exact yields_fault
  | refused => exact yields_refused

/-- What a CPU's clock yields, by what it does: nothing (jammed), wait, enter an interrupt, or run an
instruction. -/
theorem yields_cpuClock {P : State → Prop} {s : State} (hjam : P s)
    (hwait : (dmaStall s).cpu.cycl ≠ (dmaStall s).cpu.next → P ((dmaStall s).mapCpu Cpu.countCycle))
    (henter : ∀ k, (dmaStall s).cpu.cycl = (dmaStall s).cpu.next →
      P ((takeInterrupt k (dmaStall s)).mapCpu Cpu.countCycle))
    (hexec : (dmaStall s).cpu.cycl = (dmaStall s).cpu.next →
      Yields (fun t => P (t.mapCpu Cpu.countCycle))
        (exec (fetchInstr (dmaStall s)).1 (fetchInstr (dmaStall s)).2)) :
    Yields P (cpuClock s) := by
  obtain ⟨-, e⟩ | ⟨-, hd, e⟩ | ⟨-, hd, k, -, e⟩ | ⟨-, hd, -, e⟩ := cpuClock_cases s <;> rw [e]
  · exact yields_next hjam
  · exact yields_next (hwait hd)
  · exact yields_next (henter k hd)
  · have hx := hexec hd
    generalize exec _ _ = r at hx ⊢
    cases r with
    | next t => exact yields_next (hx t rfl)
    | fault => exact yields_fault
    | refused => exact yields_refused

end Sys2Proof.Machine

/-! SUPPORT. The memories in canonical form and within their bounds (R27, R37-R39, R43, R45, R58). -/

namespace Sys2Proof.Machine

/-! ### One memory -/

/-- The memory is canonical and lists no address from `bound` on. -/
structure Memory.Fits (bound : Nat) (m : Memory) : Prop where
  wf : m.wf = true
  below : m.below bound = true

theorem Memory.Fits.put {m : Memory} {bound a : Nat} (h : m.Fits bound) (ha : a < bound) (b : Byte) :
    (m.put a b).Fits bound :=
  ⟨m.wf_put a b h.wf, m.below_put b h.below ha⟩

theorem putPixel_fits {x : Nat} {row : Memory} (h : row.Fits 1024) (hx : x < 256) (c : Rgb) :
    (putPixel x c row).Fits 1024 :=
  (((h.put (by omega) c.r).put (by omega) c.g).put (by omega) c.b).put (by omega) 0xFF#8

/-! ### The invariant by its parts -/

/-- The PPU's memories: OAM, nametables, palette, frame buffer (R37-R39, R43). -/
structure Ppu.MemoriesFit (p : Ppu) : Prop where
  oam : p.oam.Fits 256
  nt : p.nt.Fits 4096
  pal : p.pal.Fits 32
  palBits : p.pal.within 0x3F#8 = true
  frame : p.frame.length = 240
  rows : ∀ row ∈ p.frame, row.Fits 1024

/-- The cartridge's two windows (R45, R58). -/
structure Cartridge.MemoriesFit (c : Cartridge) : Prop where
  prg : c.prg.Fits 65536
  chr : c.chr.Fits 8192

/-- `MemoryInv`, with its parts named. -/
structure State.MemoriesFit (s : State) : Prop where
  ram : s.bus.ram.Fits 2048
  ppu : s.ppu.MemoriesFit
  cart : s.cart.MemoriesFit

theorem memoryInv_iff (s : State) : MemoryInv s ↔ s.MemoriesFit where
  mp := fun ⟨hr, hr', ho, ho', hn, hn', hp, hp', hb, hl, hf, hg, hg', hc, hc'⟩ =>
    ⟨⟨hr, hr'⟩, ⟨⟨ho, ho'⟩, ⟨hn, hn'⟩, ⟨hp, hp'⟩, hb, hl, fun row h => ⟨(hf row h).1, (hf row h).2⟩⟩,
      ⟨hg, hg'⟩, ⟨hc, hc'⟩⟩
  mpr := fun ⟨⟨hr, hr'⟩, ⟨⟨ho, ho'⟩, ⟨hn, hn'⟩, ⟨hp, hp'⟩, hb, hl, hf⟩, ⟨⟨hg, hg'⟩, ⟨hc, hc'⟩⟩⟩ =>
    ⟨hr, hr', ho, ho', hn, hn', hp, hp', hb, hl, fun row h => ⟨(hf row h).wf, (hf row h).below⟩,
      hg, hg', hc, hc'⟩

/-! ### The cartridge's writes -/

theorem Cartridge.MemoriesFit.cpuWrite {c : Cartridge} (h : c.MemoriesFit) (a : Addr) (v : Byte) :
    (c.cpuWrite a v).MemoriesFit := by
  unfold Cartridge.cpuWrite
  split
  · split
    · exact { h with prg := h.prg.put a.isLt v }
    · exact h
  · exact { h with }

theorem Cartridge.MemoriesFit.ppuWrite {c : Cartridge} (h : c.MemoriesFit) {a : Addr}
    (ha : a.toNat < 8192) (v : Byte) : (c.ppuWrite a v).MemoriesFit := by
  unfold Cartridge.ppuWrite
  split
  · split
    · exact { h with chr := h.chr.put ha v }
    · exact h
  · exact { h with }

/-! ### The PPU's registers -/

namespace Ppu.MemoriesFit

variable {p : Ppu}

theorem advanceV (h : p.MemoriesFit) : p.advanceV.MemoriesFit := { h with }

theorem writeOamData (h : p.MemoriesFit) (b : Byte) : (p.writeOamData b).MemoriesFit :=
  { h with oam := h.oam.put p.oamAddr.isLt b }

theorem writeScroll (h : p.MemoriesFit) (b : Byte) : (p.writeScroll b).MemoriesFit := by
  unfold Ppu.writeScroll
  split
  · exact { h with }
  · exact { h with }

theorem writeAddr (h : p.MemoriesFit) (b : Byte) : (p.writeAddr b).MemoriesFit := by
  unfold Ppu.writeAddr
  split
  · exact { h with }
  · exact { h with }

end Ppu.MemoriesFit

/-- Each of the three windows of the PPU's address space bounds the cell it writes (R59-R61). -/
theorem ppuWrite_memoriesFit {s : State} (h : s.MemoriesFit) (a : Addr) (v : Byte) :
    (ppuWrite a v s).MemoriesFit := by
  unfold ppuWrite
  extract_lets b
  split
  · rename_i hb
    exact { h with cart := h.cart.ppuWrite (of_decide_eq_true hb) v }
  split
  · exact { h with ppu := { h.ppu with nt := h.ppu.nt.put (ntCell_lt _ _) v } }
  · exact { h with ppu := { h.ppu with
      pal := h.ppu.pal.put (palIndex_lt _) _
      palBits := Memory.within_put _ h.ppu.palBits (and_mask_within _ _) } }

theorem ppuRegWrite_memoriesFit {s : State} (h : s.MemoriesFit) (r : Nat) (b : Byte) :
    (ppuRegWrite r b s).MemoriesFit := by
  obtain e | e | ⟨f, e, rfl | rfl | rfl | rfl | rfl⟩ | e := ppuRegWrite_cases r b s <;> rw [e]
  · exact h
  · exact { h with ppu := { h.ppu with } }
  · exact { h with ppu := { h.ppu with } }
  · exact { h with ppu := { h.ppu with } }
  · exact { h with ppu := h.ppu.writeOamData b }
  · exact { h with ppu := h.ppu.writeScroll b }
  · exact { h with ppu := h.ppu.writeAddr b }
  · have hw := ppuWrite_memoriesFit h (s.ppu.v &&& 0x3FFF#16) b
    exact { hw with ppu := hw.ppu.advanceV }

/-- Every bus access keeps the memories in form. -/
theorem busKeeps_memoriesFit : BusKeeps State.MemoriesFit where
  cpu _ h := { h with }
  lines hb h := { h with ram := hb ▸ h.ram }
  read {s} a h := by
    obtain e | e | e | ⟨b, e⟩ | e := busRead_cases a s <;> rw [e]
    · exact h
    · exact { h with ppu := { h.ppu with } }
    · exact { h with ppu := { h.ppu with } }
    · exact { h with ppu := { h.ppu with } }
    · exact { h with }
  write {s} a v h := by
    obtain ⟨-, e⟩ | ⟨-, e | e | e | e | e⟩ := busWrite_cases a v s <;> rw [e]
    · exact { h with ram := h.ram.put (ramCell_lt a) v }
    · exact ppuRegWrite_memoriesFit h _ v
    · exact { h with }
    · exact { h with }
    · exact { h with cart := h.cart.cpuWrite a v }
    · exact h

/-! ### The OAM-DMA copy -/

theorem dmaBytes_memoriesFit {s : State} (h : s.MemoriesFit) (k i : Nat) : (dmaBytes k i s).MemoriesFit := by
  induction k generalizing i s with
  | zero => exact h
  | succ k ih =>
    have hr := busKeeps_memoriesFit.read (s.bus.oamDmaAddr + BitVec.ofNat 16 i) h
    have hb : (dmaByte i s).MemoriesFit :=
      { hr with ppu := { hr.ppu with oam := hr.ppu.oam.put (BitVec.isLt _) _ } }
    exact ih hb (i + 1)

theorem dmaDrain_memoriesFit {s : State} (h : s.MemoriesFit) : (dmaDrain s).MemoriesFit := by
  cases hb : s.bus.oamDmaPpu
  · rwa [dmaDrain_idle hb]
  · rw [dmaDrain_copy hb]
    refine busKeeps_memoriesFit.lines ?_ (dmaBytes_memoriesFit h 256 0)
    rw [(dmaBytes_frame 256 0 s).2.1]

/-! ### The stages of a dot -/

namespace Ppu.MemoriesFit

variable {p : Ppu}

theorem oddSkip (h : p.MemoriesFit) : p.oddSkip.MemoriesFit := by
  unfold Ppu.oddSkip
  split
  · exact { h with }
  · exact h

theorem advance (h : p.MemoriesFit) : p.advance.MemoriesFit := by
  obtain ⟨d, l, odd, ready, e⟩ := p.advance_fields
  rw [e]
  exact { h with }

theorem scrollUpdates (h : p.MemoriesFit) : p.scrollUpdates.MemoriesFit := by
  obtain ⟨v, e⟩ := p.scrollUpdates_fields
  rw [e]
  exact { h with }

theorem spriteEvaluate (h : p.MemoriesFit) : p.spriteEvaluate.MemoriesFit := by
  obtain ⟨ns, nc, n0, ov, e⟩ := p.spriteEvaluate_fields
  rw [e]
  exact { h with }

theorem backgroundShift (h : p.MemoriesFit) : p.backgroundShift.MemoriesFit := by
  obtain ⟨a, b, c, d, e⟩ := p.backgroundShift_fields
  rw [e]
  exact { h with }

theorem spriteShift (h : p.MemoriesFit) : p.spriteShift.MemoriesFit := by
  obtain ⟨cs, e⟩ := p.spriteShift_fields
  rw [e]
  exact { h with }

end Ppu.MemoriesFit

theorem backgroundFetch_memoriesFit {s : State} (h : s.ppu.MemoriesFit) :
    (backgroundFetch s).ppu.MemoriesFit := by
  obtain ⟨v, id, at_, lo_, hi_, a, b, c, d, e, -⟩ := backgroundFetch_fields s
  rw [e]
  exact { h with }

theorem spriteLoads_memoriesFit {s : State} (h : s.ppu.MemoriesFit) : (spriteLoads s).ppu.MemoriesFit := by
  obtain ⟨cs, cc, c0, nc, n0, e, -⟩ := spriteLoads_fields s
  rw [e]
  exact { h with }

/-- A pixel's column is below 256, so its four bytes stay inside its row (R230). -/
theorem outputPixel_memoriesFit {s : State} (h : s.ppu.MemoriesFit) (hp : s.ppu.onPixel = true) :
    (outputPixel s).ppu.MemoriesFit := by
  have hx : s.ppu.column < 256 := by
    simp only [Ppu.onPixel, Bool.and_eq_true, decide_eq_true_eq] at hp
    unfold Ppu.column
    omega
  refine { h with frame := by simp [outputPixel, h.frame], rows := ?_ }
  intro row hrow
  obtain ⟨i, hi, rfl⟩ := List.mem_iff_getElem.mp hrow
  simp only [outputPixel, State.mapPpu_ppu, List.getElem_modify] at hi ⊢
  split
  · exact putPixel_fits (h.rows _ (List.getElem_mem _)) hx _
  · exact h.rows _ (List.getElem_mem _)

/-- A stage that runs under a condition keeps what the stage keeps. -/
theorem ite_memoriesFit {c : Prop} [Decidable c] {s t : State} (ht : c → t.ppu.MemoriesFit)
    (hs : s.ppu.MemoriesFit) : (if c then t else s).ppu.MemoriesFit :=
  iteInduction (motive := fun u : State => u.ppu.MemoriesFit) ht fun _ => hs

theorem lineWork_memoriesFit {s : State} (h : s.ppu.MemoriesFit) : (lineWork s).ppu.MemoriesFit := by
  unfold lineWork
  extract_lets s1 s2 s3 s4 s5
  have h1 : s1.ppu.MemoriesFit := ite_memoriesFit (fun _ => { h with }) h
  have h2 : s2.ppu.MemoriesFit := spriteLoads_memoriesFit (backgroundFetch_memoriesFit h1).scrollUpdates
  have h3 : s3.ppu.MemoriesFit := ite_memoriesFit (outputPixel_memoriesFit h2) h2
  have h4 : s4.ppu.MemoriesFit := ite_memoriesFit (fun _ => h3.spriteEvaluate) h3
  have h5 : s5.ppu.MemoriesFit := h4.backgroundShift
  exact ite_memoriesFit (fun _ => h5.spriteShift) h5

theorem dotWork_memoriesFit {s : State} (h : s.ppu.MemoriesFit) : (dotWork s).ppu.MemoriesFit := by
  unfold dotWork
  exact ite_memoriesFit (fun _ => lineWork_memoriesFit h) (ite_memoriesFit (fun _ => { h with }) h)

/-- A PPU clock keeps the memories in form. -/
theorem ppuClock_memoriesFit (s : State) (h : s.MemoriesFit) : (ppuClock s).MemoriesFit := by
  obtain ⟨-, hcart, -, b, hbus⟩ := ppuClock_frame s
  have hd : ((dmaDrain s).mapPpu Ppu.oddSkip).ppu.MemoriesFit := (dmaDrain_memoriesFit h).ppu.oddSkip
  exact ⟨by rw [hbus]; exact h.ram, (dotWork_memoriesFit hd).advance, by rw [hcart]; exact h.cart⟩

/-- Settles O38: every bus access and every stage of the PPU's clock writes inside the bounds of its memory,
and a step is a chain of them. -/
theorem stepKeepsMemoryForm : Obligations.StepKeepsMemoryForm := by
  intro s t h ht
  rw [memoryInv_iff] at h ⊢
  exact busKeeps_memoriesFit.step ppuClock_memoriesFit h t ht

end Sys2Proof.Machine

/-! SUPPORT. What an instruction does to the CPU's counters and to STAT, once for all instructions: `next` by
its row of the opcode table (R74, R84), and only the flags that R22 lets its mnemonic write. -/

namespace Sys2Proof.Machine

open Sys2Proof.Claims

/-! ### Register effects by the flags they write -/

/-- From `c` to `d` no bit of STAT changes but those of `w`, and the cycle counter stays. -/
structure Cpu.Writes (w : List Nat) (c d : Cpu) : Prop where
  cycl : d.cycl = c.cycl
  stat : ∀ b < 8, b ∉ w → d.stat.getLsbD b = c.stat.getLsbD b

namespace Cpu.Writes

variable {w w' : List Nat} {c d e : Cpu}

theorem trans (h : Cpu.Writes w c d) (h' : Cpu.Writes w' d e) : Cpu.Writes (w ++ w') c e where
  cycl := h'.cycl.trans h.cycl
  stat b hb hw := by
    rw [List.mem_append, not_or] at hw
    exact (h'.stat b hb hw.2).trans (h.stat b hb hw.1)

theorem mono (h : Cpu.Writes w c d) (hw : ∀ b ∈ w, b ∈ w') : Cpu.Writes w' c d :=
  ⟨h.cycl, fun b hb hn => h.stat b hb fun hm => hn (hw b hm)⟩

/-- An effect on registers other than STAT. -/
theorem registers (hs : d.stat = c.stat) (hc : d.cycl = c.cycl) : Cpu.Writes [] c d :=
  ⟨hc, fun _ _ _ => by rw [hs]⟩

/-- The same effect after a change of registers other than STAT. -/
theorem after (h : Cpu.Writes w d e) (hs : d.stat = c.stat) (hc : d.cycl = c.cycl) : Cpu.Writes w c e :=
  (registers hs hc).trans h

/-- An effect that loads the whole of STAT. -/
theorem whole (hc : d.cycl = c.cycl) : Cpu.Writes (List.range 8) c d :=
  ⟨hc, fun _ hb hw => absurd (List.mem_range.mpr hb) hw⟩

theorem putBit (n : Nat) (b : Bool) (c : Cpu) :
    Cpu.Writes [n] c { c with stat := Sys2Proof.putBit n b c.stat } :=
  ⟨rfl, fun m hm hw => by
    rw [getLsbD_putBit n m b _ hm, if_neg fun h => hw (List.mem_singleton.mpr h)]⟩

theorem setC (b : Bool) (c : Cpu) : Cpu.Writes [0] c (c.setC b) := putBit 0 b c
theorem setZ (b : Bool) (c : Cpu) : Cpu.Writes [1] c (c.setZ b) := putBit 1 b c
theorem setI (b : Bool) (c : Cpu) : Cpu.Writes [2] c (c.setI b) := putBit 2 b c
theorem setD (b : Bool) (c : Cpu) : Cpu.Writes [3] c (c.setD b) := putBit 3 b c
theorem setV (b : Bool) (c : Cpu) : Cpu.Writes [6] c (c.setV b) := putBit 6 b c
theorem setN (b : Bool) (c : Cpu) : Cpu.Writes [7] c (c.setN b) := putBit 7 b c

theorem setZN (v : Byte) (c : Cpu) : Cpu.Writes [1, 7] c (c.setZN v) := (setZ _ c).trans (setN _ _)

theorem loadA (v : Byte) (c : Cpu) : Cpu.Writes [1, 7] c (c.loadA v) := after (setZN v _) rfl rfl
theorem loadX (v : Byte) (c : Cpu) : Cpu.Writes [1, 7] c (c.loadX v) := after (setZN v _) rfl rfl
theorem loadY (v : Byte) (c : Cpu) : Cpu.Writes [1, 7] c (c.loadY v) := after (setZN v _) rfl rfl
theorem loadAX (v : Byte) (c : Cpu) : Cpu.Writes [1, 7] c (c.loadAX v) := after (loadA v _) rfl rfl

theorem loadAXSP (m : Byte) (c : Cpu) : Cpu.Writes [1, 7] c (c.loadAXSP m) :=
  after (loadA (m &&& c.sp) _) rfl rfl

theorem addWithCarry (m : Byte) (c : Cpu) : Cpu.Writes [0, 1, 6, 7] c (c.addWithCarry m) :=
  mono (w := [0, 6, 1, 7]) ((setC _ c).trans ((setV _ _).trans (after (setZN _ _) rfl rfl))) (by decide)

theorem subWithBorrow (m : Byte) (c : Cpu) : Cpu.Writes [0, 1, 6, 7] c (c.subWithBorrow m) :=
  addWithCarry _ c

theorem compare (reg m : Byte) (c : Cpu) : Cpu.Writes [0, 1, 7] c (c.compare reg m) :=
  (setC _ c).trans (setZN _ _)

theorem bitTest (m : Byte) (c : Cpu) : Cpu.Writes [1, 6, 7] c (c.bitTest m) :=
  ((setZ _ c).trans ((setN _ _).trans (setV _ _))).mono (by decide)

theorem shifted (out : Bool) (res : Byte) (c : Cpu) : Cpu.Writes [0, 1, 7] c (c.shifted out res) :=
  (setC out c).trans (setZN res _)

theorem shiftA (out : Bool) (res : Byte) (c : Cpu) : Cpu.Writes [0, 1, 7] c (c.shiftA out res) :=
  after (shifted out res _) rfl rfl

theorem andCarry (m : Byte) (c : Cpu) : Cpu.Writes [0, 1, 7] c (c.andCarry m) :=
  ((loadA _ c).trans (setC _ _)).mono (by decide)

theorem andShiftRight (m : Byte) (c : Cpu) : Cpu.Writes [0, 1, 7] c (c.andShiftRight m) :=
  (setC _ c).trans (loadA _ _)

theorem andRotateRight (m : Byte) (c : Cpu) : Cpu.Writes [0, 1, 6, 7] c (c.andRotateRight m) :=
  ((loadA _ c).trans ((setC _ _).trans (setV _ _))).mono (by decide)

theorem andXSubtract (m : Byte) (c : Cpu) : Cpu.Writes [0, 1, 7] c (c.andXSubtract m) :=
  (setC _ c).trans (loadX _ _)

theorem setCAddWithCarry (out : Bool) (m : Byte) (c : Cpu) :
    Cpu.Writes [0, 1, 6, 7] c ((c.setC out).addWithCarry m) :=
  ((setC out c).trans (addWithCarry m _)).mono (by decide)

theorem setCLoadA (out : Bool) (v : Byte) (c : Cpu) : Cpu.Writes [0, 1, 7] c ((c.setC out).loadA v) :=
  (setC out c).trans (loadA v _)

end Cpu.Writes

/-! ### What the row of an instruction allows -/

/-- The mnemonic may write bit `b` of STAT, by the table of R22. -/
def mayWrite (mn : String) (b : Nat) : Bool :=
  match b with
  | 0 => decide (mn ∈ carryWriters)
  | 1 | 7 => decide (mn ∉ zeroNegativeKeepers)
  | 2 => decide (mn ∈ ["SEI", "CLI", "PLP", "RTI", "BRK"])
  | 3 => decide (mn ∈ ["SED", "CLD", "PLP", "RTI"])
  | 6 => decide (mn ∈ overflowWriters)
  | _ => decide (mn ∈ ["PLP", "RTI"])

/-- The most cycles that a page crossing, or a branch taken, adds to the base cycles (R101, R143). -/
def cycleSlack (m : Mode) (pageCross : Bool) : Nat := if m = .rel then 2 else if pageCross then 1 else 0

/-- A row's cycles are 2 to 8, whatever is added to them (R264). -/
def cyclesInRange (m : Mode) (cycles : Nat) (pageCross : Bool) : Bool :=
  decide (2 ≤ cycles ∧ cycles + cycleSlack m pageCross ≤ 8)

/-! The mnemonics by the flags that their rules list (R22): Z and N; these and C; these, C and V. -/

theorem mayWrite_ZN : ∀ mn ∈ ["LDA", "LDX", "LDY", "LAX", "AND", "ORA", "EOR", "INC", "DEC",
    "TAX", "TAY", "TXA", "TYA", "TSX", "INX", "INY", "DEX", "DEY", "PLA", "ANE", "LXA", "LAS"],
    ∀ b ∈ [1, 7], mayWrite mn b = true := by decide

theorem mayWrite_CZN : ∀ mn ∈ ["CMP", "CPX", "CPY", "ASL", "LSR", "ROL", "ROR",
    "SLO", "RLA", "SRE", "DCP", "AAC", "ASR", "AXS"], ∀ b ∈ [0, 1, 7], mayWrite mn b = true := by decide

theorem mayWrite_CVZN : ∀ mn ∈ ["ADC", "SBC", "RRA", "ISB", "ARR"],
    ∀ b ∈ [0, 1, 6, 7], mayWrite mn b = true := by decide

/-- What an instruction of the row `r` may do to the CPU's counters and to STAT. -/
structure Runs (r : Row) (c d : Cpu) : Prop where
  cycl : d.cycl = c.cycl
  next : ∃ extra ≤ cycleSlack r.mode r.pageCross, d.next = c.cycl + r.cycles + extra
  next_ge : c.cycl + 2 ≤ d.next
  next_le : d.next ≤ c.cycl + 8
  stat : ∀ b < 8, mayWrite r.mnemonic b = false → d.stat.getLsbD b = c.stat.getLsbD b

/-! ### The stack and the entries -/

/-- An entry sets I, and of the other registers changes PC and SP (R155, R238). -/
theorem enterVia_cpu (ret : Addr) (status : Byte) (vector : Addr) (s : State) :
    ∃ pc, (enterVia ret status vector s).cpu =
      { s.cpu.setI true with sp := s.cpu.sp - 1#8 - 1#8 - 1#8, pc := pc } :=
  ⟨(enterVia ret status vector s).cpu.pc, by
    simp [enterVia, State.setPc, State.mapCpu, pushAddr, push_eq, Cpu.setI]⟩

theorem Cpu.Writes.enterVia (ret : Addr) (status : Byte) (vector : Addr) (s : State) :
    Cpu.Writes [2] s.cpu (enterVia ret status vector s).cpu := by
  obtain ⟨pc, e⟩ := enterVia_cpu ret status vector s
  rw [e]
  exact (setI true s.cpu).trans (registers rfl rfl)

/-- RTI loads STAT from the pulled byte, and of the other registers changes PC and SP (R156). -/
theorem returnFromInterrupt_cpu (s : State) :
    ∃ pc sp, (returnFromInterrupt s).cpu =
      { s.cpu with stat := statFromPulled (pull s).1, pc := pc, sp := sp } :=
  ⟨(returnFromInterrupt s).cpu.pc, (returnFromInterrupt s).cpu.sp, by
    simp [returnFromInterrupt, State.setPc, State.mapCpu, pullAddr, pull_eq]⟩

theorem Cpu.Writes.returnFromInterrupt (s : State) :
    Cpu.Writes (List.range 8) s.cpu (returnFromInterrupt s).cpu := by
  obtain ⟨pc, sp, e⟩ := returnFromInterrupt_cpu s
  rw [e]
  exact whole rfl

/-! ### The shapes of a meaning -/

/-- The extra cycle of an address is the row's to allow. -/
theorem resolve_extra_le_cycleSlack (o : Operand) (m : Mode) (p : Bool) (s : State) :
    (resolve o p s).extra ≤ cycleSlack m p := by
  cases p with
  | true => exact (resolve_extra_le o true s).trans (by cases m <;> decide)
  | false => cases o <;> exact Nat.zero_le _

section shapes

variable {r : Row} {op : Byte} {mn : String} {m : Mode} {k : Nat} {p : Bool} {ops : List Byte} {w : List Nat}
  {s : State} (hr : r = ⟨op, mn, m, k, p, ops⟩)

include hr

/-- Every shape ends by keeping the CPU busy for the row's cycles and the extra ones. -/
theorem runs_busyFor {t : State} {extra : Nat} (ht : Cpu.Writes w s.cpu t.cpu) (he : extra ≤ cycleSlack m p)
    (hw : ∀ b ∈ w, mayWrite mn b = true) (hk : cyclesInRange m k p = true) :
    Yields (fun t => Runs r s.cpu t.cpu) (.next (t.busyFor (k + extra))) := by
  subst hr
  obtain ⟨hge, hle⟩ := of_decide_eq_true hk
  have hn : (t.busyFor (k + extra)).cpu.next = s.cpu.cycl + k + extra := by
    simp only [State.busyFor_cpu_next, ht.cycl, Nat.add_assoc]
  refine yields_next ⟨ht.cycl, ⟨extra, he, hn⟩, by omega, by omega, fun b hb hno => ?_⟩
  exact ht.stat b hb fun hmem => absurd (hw b hmem) (by simp [hno])

theorem runs_fixed {t : State} (ht : Cpu.Writes w s.cpu t.cpu) (hw : ∀ b ∈ w, mayWrite mn b = true)
    (hk : cyclesInRange m k p = true) : Yields (fun t => Runs r s.cpu t.cpu) (.next (t.busyFor k)) :=
  runs_busyFor hr ht (Nat.zero_le _) hw hk

/-- No flag is written. -/
theorem runs_quiet {t : State} (hs : t.cpu.stat = s.cpu.stat) (hc : t.cpu.cycl = s.cpu.cycl)
    (hk : cyclesInRange m k p = true) : Yields (fun t => Runs r s.cpu t.cpu) (.next (t.busyFor k)) :=
  runs_fixed hr (.registers hs hc) (by simp) hk

theorem runs_readClass {o : Operand} {f : Byte → Cpu → Cpu} (hf : ∀ v c, Cpu.Writes w c (f v c))
    (hw : ∀ b ∈ w, mayWrite mn b = true) (hk : cyclesInRange m k p = true) :
    Yields (fun t => Runs r s.cpu t.cpu) (readClass o p k f s) := by
  refine runs_busyFor hr ?_ (resolve_extra_le_cycleSlack o m p s) hw hk
  simp only [State.mapCpu_cpu, operandByte_cpu, resolve_cpu]
  exact hf _ _

theorem runs_writeClass {o : Operand} {g : Addr → Cpu → Byte} (hk : cyclesInRange m k p = true) :
    Yields (fun t => Runs r s.cpu t.cpu) (writeClass o k g s) :=
  runs_quiet hr (by simp) (by simp) hk

theorem runs_modifyClass {o : Operand} {g : Byte → Cpu → Byte} {f : Byte → Byte → Cpu → Cpu}
    (hf : ∀ v res c, Cpu.Writes w c (f v res c)) (hw : ∀ b ∈ w, mayWrite mn b = true)
    (hk : cyclesInRange m k p = true) : Yields (fun t => Runs r s.cpu t.cpu) (modifyClass o k g f s) := by
  refine runs_fixed hr ?_ hw hk
  simp only [State.mapCpu_cpu, busWrite_cpu, busRead_cpu, resolve_cpu]
  exact hf _ _ _

theorem runs_impliedClass {f : Cpu → Cpu} (hf : ∀ c, Cpu.Writes w c (f c))
    (hw : ∀ b ∈ w, mayWrite mn b = true) (hk : cyclesInRange m k p = true) :
    Yields (fun t => Runs r s.cpu t.cpu) (impliedClass k f s) :=
  runs_fixed hr (hf s.cpu) hw hk

/-- A branch adds up to 2 cycles to its 2 (R143). -/
theorem runs_branchIf {cond : Cpu → Bool} {d : Byte} (hm : m = .rel) (hk : k = 2) :
    Yields (fun t => Runs r s.cpu t.cpu) (branchIf cond d s) := by
  subst hm hk
  have hslack : cycleSlack .rel p = 2 := rfl
  have hrange : cyclesInRange .rel 2 p = true := by simp [cyclesInRange, hslack]
  unfold branchIf
  extract_lets target
  split
  · rw [Nat.add_assoc 2 1]
    exact runs_busyFor hr (.registers rfl rfl) (by rw [hslack]; split <;> decide) (by simp) hrange
  · exact runs_quiet hr rfl rfl hrange

theorem runs_jump {o : Operand} (hk : cyclesInRange m k p = true) :
    Yields (fun t => Runs r s.cpu t.cpu) (jump o k s) :=
  runs_quiet hr (by simp) (by simp) hk

end shapes

theorem runs_unstable {r : Row} {s : State} {o : Byte} {run : Result}
    (h : Yields (fun t => Runs r s.cpu t.cpu) run) :
    Yields (fun t => Runs r s.cpu t.cpu) (unstable o s run) := by
  unfold unstable
  split
  · exact yields_refused
  · exact h

/-- Every instruction keeps `cycl`, is busy for its row's cycles and the extra ones, and writes only the flags
that its mnemonic may. (`change` names the shared operation of a family, which is then seen to be of its class
without a look into the bus.) -/
theorem exec_runs (i : Instr) (s : State) : Yields (fun t => Runs i.row s.cpu t.cpu) (exec i s) := by
  cases i <;> unfold exec
  case ldaIzx | ldaZp | ldaImm | ldaAbs | ldaIzy | ldaZpx | ldaAby | ldaAbx =>
    exact runs_readClass rfl .loadA (mayWrite_ZN _ (by decide)) (by decide)
  case ldxImm | ldxZp | ldxAbs | ldxZpy | ldxAby =>
    exact runs_readClass rfl .loadX (mayWrite_ZN _ (by decide)) (by decide)
  case ldyImm | ldyZp | ldyAbs | ldyZpx | ldyAbx =>
    exact runs_readClass rfl .loadY (mayWrite_ZN _ (by decide)) (by decide)
  case laxIzx | laxZp | laxAbs | laxIzy | laxZpy | laxAby =>
    exact runs_readClass rfl .loadAX (mayWrite_ZN _ (by decide)) (by decide)
  case adcIzx | adcZp | adcImm | adcAbs | adcIzy | adcZpx | adcAby | adcAbx =>
    exact runs_readClass rfl .addWithCarry (mayWrite_CVZN _ (by decide)) (by decide)
  case sbcIzx | sbcZp | sbcImm | sbcAbs | sbcIzy | sbcZpx | sbcAby | sbcAbx | sbcImmEB =>
    exact runs_readClass rfl .subWithBorrow (mayWrite_CVZN _ (by decide)) (by decide)
  case andIzx | andZp | andImm | andAbs | andIzy | andZpx | andAby | andAbx
    | oraIzx | oraZp | oraImm | oraAbs | oraIzy | oraZpx | oraAby | oraAbx
    | eorIzx | eorZp | eorImm | eorAbs | eorIzy | eorZpx | eorAby | eorAbx =>
    exact runs_readClass rfl (fun _ _ => .loadA _ _) (mayWrite_ZN _ (by decide)) (by decide)
  case cmpIzx | cmpZp | cmpImm | cmpAbs | cmpIzy | cmpZpx | cmpAby | cmpAbx
    | cpxImm | cpxZp | cpxAbs | cpyImm | cpyZp | cpyAbs =>
    exact runs_readClass rfl (fun _ _ => .compare _ _ _) (mayWrite_CZN _ (by decide)) (by decide)
  case bitZp | bitAbs => exact runs_readClass rfl .bitTest (by decide) (by decide)
  case aacImm0B | aacImm2B => exact runs_readClass rfl .andCarry (mayWrite_CZN _ (by decide)) (by decide)
  case asrImm => exact runs_readClass rfl .andShiftRight (mayWrite_CZN _ (by decide)) (by decide)
  case arrImm => exact runs_readClass rfl .andRotateRight (mayWrite_CVZN _ (by decide)) (by decide)
  case axsImm => exact runs_readClass rfl .andXSubtract (mayWrite_CZN _ (by decide)) (by decide)
  case nopImm80 | nopImm82 | nopImm89 | nopImmC2 | nopImmE2 | nopZp04 | nopZp44 | nopZp64
    | nopZpx14 | nopZpx34 | nopZpx54 | nopZpx74 | nopZpxD4 | nopZpxF4
    | nopAbs | nopAbx1C | nopAbx3C | nopAbx5C | nopAbx7C | nopAbxDC | nopAbxFC =>
    exact runs_readClass rfl (fun _ _ => .registers rfl rfl) (by simp) (by decide)
  case staIzx | staZp | staAbs | staIzy | staZpx | staAby | staAbx | stxZp | stxAbs | stxZpy
    | styZp | styAbs | styZpx => exact runs_writeClass rfl (by decide)
  case saxIzx | saxZp | saxAbs | saxZpy =>
    change Yields _ (sax _ _ _)
    exact runs_writeClass rfl (by decide)
  case incZp | incAbs | incZpx | incAbx =>
    change Yields _ (incMem _ _ _)
    exact runs_modifyClass rfl (fun _ _ _ => .setZN _ _) (mayWrite_ZN _ (by decide)) (by decide)
  case decZp | decAbs | decZpx | decAbx =>
    change Yields _ (decMem _ _ _)
    exact runs_modifyClass rfl (fun _ _ _ => .setZN _ _) (mayWrite_ZN _ (by decide)) (by decide)
  case aslZp | aslAbs | aslZpx | aslAbx =>
    change Yields _ (aslMem _ _ _)
    exact runs_modifyClass rfl (fun _ _ _ => .shifted _ _ _) (mayWrite_CZN _ (by decide)) (by decide)
  case lsrZp | lsrAbs | lsrZpx | lsrAbx =>
    change Yields _ (lsrMem _ _ _)
    exact runs_modifyClass rfl (fun _ _ _ => .shifted _ _ _) (mayWrite_CZN _ (by decide)) (by decide)
  case rolZp | rolAbs | rolZpx | rolAbx =>
    change Yields _ (rolMem _ _ _)
    exact runs_modifyClass rfl (fun _ _ _ => .shifted _ _ _) (mayWrite_CZN _ (by decide)) (by decide)
  case rorZp | rorAbs | rorZpx | rorAbx =>
    change Yields _ (rorMem _ _ _)
    exact runs_modifyClass rfl (fun _ _ _ => .shifted _ _ _) (mayWrite_CZN _ (by decide)) (by decide)
  case sloIzx | sloZp | sloAbs | sloIzy | sloZpx | sloAby | sloAbx =>
    change Yields _ (slo _ _ _)
    exact runs_modifyClass rfl (fun _ _ _ => .setCLoadA _ _ _) (mayWrite_CZN _ (by decide)) (by decide)
  case rlaIzx | rlaZp | rlaAbs | rlaIzy | rlaZpx | rlaAby | rlaAbx =>
    change Yields _ (rla _ _ _)
    exact runs_modifyClass rfl (fun _ _ _ => .setCLoadA _ _ _) (mayWrite_CZN _ (by decide)) (by decide)
  case sreIzx | sreZp | sreAbs | sreIzy | sreZpx | sreAby | sreAbx =>
    change Yields _ (sre _ _ _)
    exact runs_modifyClass rfl (fun _ _ _ => .setCLoadA _ _ _) (mayWrite_CZN _ (by decide)) (by decide)
  case rraIzx | rraZp | rraAbs | rraIzy | rraZpx | rraAby | rraAbx =>
    change Yields _ (rra _ _ _)
    exact runs_modifyClass rfl (fun _ _ _ => .setCAddWithCarry _ _ _)
      (mayWrite_CVZN _ (by decide)) (by decide)
  case dcpIzx | dcpZp | dcpAbs | dcpIzy | dcpZpx | dcpAby | dcpAbx =>
    change Yields _ (dcp _ _ _)
    exact runs_modifyClass rfl (fun _ _ _ => .compare _ _ _) (mayWrite_CZN _ (by decide)) (by decide)
  case isbIzx | isbZp | isbAbs | isbIzy | isbZpx | isbAby | isbAbx =>
    change Yields _ (isb _ _ _)
    exact runs_modifyClass rfl (fun _ _ _ => .subWithBorrow _ _) (mayWrite_CVZN _ (by decide)) (by decide)
  case tax | tsx | inx | dex =>
    exact runs_impliedClass rfl (fun _ => .loadX _ _) (mayWrite_ZN _ (by decide)) (by decide)
  case tay | iny | dey =>
    exact runs_impliedClass rfl (fun _ => .loadY _ _) (mayWrite_ZN _ (by decide)) (by decide)
  case txa | tya => exact runs_impliedClass rfl (fun _ => .loadA _ _) (mayWrite_ZN _ (by decide)) (by decide)
  case txs => exact runs_quiet rfl rfl rfl (by decide)
  case aslAcc | lsrAcc | rolAcc | rorAcc =>
    exact runs_impliedClass rfl (fun _ => .shiftA _ _ _) (mayWrite_CZN _ (by decide)) (by decide)
  case clc | sec => exact runs_impliedClass rfl (.setC _) (by decide) (by decide)
  case cli | sei => exact runs_impliedClass rfl (.setI _) (by decide) (by decide)
  case clv => exact runs_impliedClass rfl (.setV _) (by decide) (by decide)
  case cld | sed => exact runs_impliedClass rfl (.setD _) (by decide) (by decide)
  case bpl | bmi | bvc | bvs | bcc | bcs | bne | beq => exact runs_branchIf rfl rfl rfl
  case jmpAbs | jmpInd => exact runs_jump rfl (by decide)
  case pha | php => exact runs_quiet rfl (by simp [push_eq]) (by simp [push_eq]) (by decide)
  case pla =>
    exact runs_fixed rfl (.after (.loadA _ _) (by simp [pull_eq]) (by simp [pull_eq]))
      (mayWrite_ZN _ (by decide)) (by decide)
  case plp => exact runs_fixed rfl (.whole (by simp [pull_eq])) (by decide) (by decide)
  case jsrAbs =>
    exact runs_quiet rfl (by simp [pushAddr, push_eq]) (by simp [pushAddr, push_eq]) (by decide)
  case rts => exact runs_quiet rfl (by simp [pullAddr, pull_eq]) (by simp [pullAddr, pull_eq]) (by decide)
  case brk => exact runs_fixed rfl (.enterVia _ _ _ _) (by decide) (by decide)
  case rti => exact runs_fixed rfl (.returnFromInterrupt _) (by decide) (by decide)
  case nop | nop1A | nop3A | nop5A | nop7A | nopDA | nopFA => exact runs_quiet rfl rfl rfl (by decide)
  case kil02 | kil12 | kil22 | kil32 | kil42 | kil52 | kil62 | kil72 | kil92 | kilB2 | kilD2 | kilF2 =>
    exact runs_quiet rfl rfl rfl (by decide)
  case aneImm =>
    exact runs_unstable (runs_readClass rfl (fun _ _ => .loadA _ _) (mayWrite_ZN _ (by decide)) (by decide))
  case lxaImm =>
    exact runs_unstable (runs_readClass rfl (fun _ _ => .loadAX _ _) (mayWrite_ZN _ (by decide)) (by decide))
  case lasAby => exact runs_unstable (runs_readClass rfl .loadAXSP (mayWrite_ZN _ (by decide)) (by decide))
  case shaIzy | shaAby | shxAby | shyAbx => exact runs_unstable (runs_writeClass rfl (by decide))
  case tasAby => exact runs_unstable (runs_quiet rfl (by simp) (by simp) (by decide))

/-- Settles O21: by `exec_runs` an instruction writes no flag but those that its mnemonic may. -/
theorem flagsHaveOnlyTheirWriters : Obligations.FlagsHaveOnlyTheirWriters := by
  intro i s t ht
  have keeps := (exec_runs i s t ht).stat
  exact ⟨fun h => keeps 0 (by decide) (decide_eq_false h),
    fun h => keeps 6 (by decide) (decide_eq_false h),
    fun h => ⟨keeps 1 (by decide) (decide_eq_false (not_not_intro h)),
      keeps 7 (by decide) (decide_eq_false (not_not_intro h))⟩,
    fun h => keeps 2 (by decide) (decide_eq_false h),
    fun h => keeps 3 (by decide) (decide_eq_false h),
    fun h => ⟨keeps 4 (by decide) (decide_eq_false h), keeps 5 (by decide) (decide_eq_false h)⟩⟩

end Sys2Proof.Machine

/-! SUPPORT. The CPU's registers across the stages of its clock, for the invariants of STAT and of the cycle
counters (R23, R25). -/

namespace Sys2Proof.Machine

/-! ### The stages of the CPU's clock -/

theorem Cpu.countCycle_stat (c : Cpu) : c.countCycle.stat = c.stat := by
  unfold Cpu.countCycle
  split <;> rfl

/-- A fetch moves PC and changes no other register. -/
theorem fetchInstr_cpu (s : State) : ∃ pc, (fetchInstr s).2.cpu = { s.cpu with pc := pc } :=
  ⟨_, (fetchBytes_cpu _ _).trans (by rw [fetchByte_cpu])⟩

/-- An interrupt's entry sets I, adds its cycles to `next`, and of the other registers changes PC and SP
(R238). -/
theorem takeInterrupt_cpu (k : Interrupt) (s : State) : ∃ pc sp, (takeInterrupt k s).cpu =
    { s.cpu.setI true with sp := sp, pc := pc, next := s.cpu.next + k.entryCycles } := by
  cases k with
  | irq =>
    obtain ⟨pc, e⟩ := enterVia_cpu s.cpu.pc s.cpu.pushedByInterrupt Interrupt.irq.vector s
    exact ⟨pc, _, by simp only [takeInterrupt, enterInterrupt, State.mapCpu_cpu, e]; rfl⟩
  | nmi =>
    obtain ⟨pc, e⟩ := enterVia_cpu s.cpu.pc s.cpu.pushedByInterrupt Interrupt.nmi.vector
      { s with bus := { s.bus with nmiSignal := false } }
    exact ⟨pc, _, by simp only [takeInterrupt, enterInterrupt, State.mapCpu_cpu, e]; rfl⟩

/-! ### The B bits of STAT -/

theorem statInv_congr {s t : State} (e : t.cpu.stat = s.cpu.stat) (h : StatInv s) : StatInv t := by
  unfold StatInv Cpu.b1 Cpu.b2 at *
  rwa [e]

/-- The byte that PLP and RTI load has the B bits masked back in (R23). -/
theorem statInv_of_pulled {s : State} {v : Byte} (e : s.cpu.stat = statFromPulled v) : StatInv s := by
  simp [StatInv, Cpu.b1, Cpu.b2, e, statFromPulled]

/-- The two instructions that may write the B bits. -/
theorem cases_of_mnemonic_breakWriter {i : Instr} (h : i.row.mnemonic ∈ ["PLP", "RTI"]) :
    i = .plp ∨ i = .rti := by
  cases i with
  | plp => exact .inl rfl
  | rti => exact .inr rfl
  | _ => simp [Instr.row] at h

theorem exec_statInv (i : Instr) {s : State} (h : StatInv s) : Yields StatInv (exec i s) := by
  intro t ht
  by_cases hi : i.row.mnemonic ∈ ["PLP", "RTI"]
  · obtain rfl | rfl := cases_of_mnemonic_breakWriter hi <;> obtain rfl := Host.Outcome.next.inj ht
    · exact statInv_of_pulled (v := (pull s).1) rfl
    · obtain ⟨pc, sp, e⟩ := returnFromInterrupt_cpu s
      exact statInv_of_pulled (v := (pull s).1) (by rw [State.busyFor_cpu_stat, e])
  · obtain ⟨-, -, -, -, -, hb⟩ := flagsHaveOnlyTheirWriters i s t ht
    obtain ⟨h1, h2⟩ := hb hi
    exact ⟨h1.trans h.1, h2.trans h.2⟩

theorem dmaStall_statInv {s : State} (h : StatInv s) : StatInv (dmaStall s) := by
  obtain ⟨-, e⟩ | ⟨-, e⟩ := dmaStall_cases s <;> rw [e] <;> exact h

theorem cpuClock_statInv {s : State} (h : StatInv s) : Yields StatInv (cpuClock s) := by
  have hd := dmaStall_statInv h
  have hcount : ∀ t : State, StatInv t → StatInv (t.mapCpu Cpu.countCycle) :=
    fun t => statInv_congr t.cpu.countCycle_stat
  refine yields_cpuClock h (fun _ => hcount _ hd) (fun k _ => hcount _ ?_) fun _ t ht => hcount t ?_
  · obtain ⟨pc, sp, e⟩ := takeInterrupt_cpu k (dmaStall s)
    have hI : StatInv ((dmaStall s).mapCpu (Cpu.setI true)) :=
      ⟨(Cpu.setI_b1 _ _).trans hd.1, (Cpu.setI_b2 _ _).trans hd.2⟩
    exact statInv_congr (by rw [e]; rfl) hI
  · obtain ⟨pc, e⟩ := fetchInstr_cpu (dmaStall s)
    exact exec_statInv _ (statInv_congr (by rw [e]) hd) t ht

/-- Settles O35: only PLP and RTI may write the B bits, and they mask them back in; no other stage of a step
touches them. -/
theorem stepKeepsBreakBits : Obligations.StepKeepsBreakBits := by
  intro s t h ht
  exact yields_step (fun s => statInv_congr (by rw [(ppuClock_frame s).1])) (cpuClock_statInv h) t ht

/-! ### The cycle counters -/

/-- Before the cycle is counted the CPU has work left: `next` is past `cycl`, by as much as `CycleInv` lets
it. -/
def WorkLeft (s : State) : Prop := s.cpu.cycl < s.cpu.next ∧ CycleInv s

/-- Counting the cycle keeps the order, at the wrap too (R82). -/
theorem countCycle_cycleInv {s : State} (h : WorkLeft s) : CycleInv (s.mapCpu Cpu.countCycle) := by
  obtain ⟨hlt, hc, -, hn, ha⟩ := h
  unfold CycleInv Cpu.countCycle
  simp only [State.mapCpu_cpu, State.mapCpu_bus]
  split <;> refine ⟨by simp only; omega, by simp only; omega, by simp only; omega, fun hb => ?_⟩
  all_goals
    have hnear := ha hb
    simp only
    omega

/-- Work of 1 to 8 cycles begun by a CPU that was due. -/
theorem workLeft_of_due {s t : State} (hc : s.cpu.cycl < 60000) (e : t.cpu.cycl = s.cpu.cycl)
    (hlt : s.cpu.cycl < t.cpu.next) (hle : t.cpu.next ≤ s.cpu.cycl + 8) : WorkLeft t := by
  refine ⟨?_, ?_, ?_, ?_, fun _ => ?_⟩ <;> omega

/-- The stall of an armed DMA adds at most 514 cycles and is then taken (R63). -/
theorem dmaStall_cycleInv {s : State} (h : CycleInv s) : CycleInv (dmaStall s) := by
  obtain ⟨hc, hle, hn, ha⟩ := h
  obtain ⟨hb, e⟩ | ⟨hb, e⟩ := dmaStall_cases s <;> rw [e]
  · exact ⟨hc, hle, hn, ha⟩
  · have hnear := ha hb
    exact ⟨hc, by simp only; omega, by simp only; omega, nofun⟩

theorem cpuClock_cycleInv {s : State} (h : CycleInv s) : Yields CycleInv (cpuClock s) := by
  have hd := dmaStall_cycleInv h
  obtain ⟨hc, hle, -⟩ := id hd
  refine yields_cpuClock h (fun hne => countCycle_cycleInv ⟨by omega, hd⟩)
    (fun k hdue => countCycle_cycleInv ?_) fun hdue t ht => countCycle_cycleInv ?_
  · obtain ⟨pc, sp, e⟩ := takeInterrupt_cpu k (dmaStall s)
    have hk : 0 < k.entryCycles ∧ k.entryCycles ≤ 8 := by cases k <;> decide
    refine workLeft_of_due hc (by rw [e]; rfl) ?_ ?_ <;> rw [e, ← hdue] <;> simp only <;> omega
  · obtain ⟨pc, e⟩ := fetchInstr_cpu (dmaStall s)
    obtain ⟨hcycl, -, hge, hle8, -⟩ := exec_runs _ _ t ht
    rw [e] at hcycl hge hle8
    exact workLeft_of_due hc hcycl (by simp only at hge; omega) hle8

/-- Settles O36: work begun by a due CPU takes 1 to 8 cycles, a stall at most 514 more, and each cycle counted
brings `cycl` one nearer to `next`. -/
theorem stepKeepsCycleOrder : Obligations.StepKeepsCycleOrder := by
  intro s t h ht
  refine yields_step (fun s hs => ?_) (cpuClock_cycleInv h) t ht
  obtain ⟨hcpu, -, -, b, hbus⟩ := ppuClock_frame s
  unfold CycleInv at *
  rwa [hcpu, hbus]

end Sys2Proof.Machine

/-! SUPPORT. Who answers a CPU address, region by region (R46, R48, R50), and the words that two bus reads
make (R52, R53): the conditions and the address arithmetic of the bus as facts about naturals. -/

namespace Sys2Proof.Machine

/-! ### The regions of the bus -/

theorem ult_ofNat_iff (a : Addr) (k : Nat) : a.ult (BitVec.ofNat 16 k) = true ↔ a.toNat < k % 65536 :=
  decide_eq_true_iff

theorem cartridgeAnswers_iff (l : Launch) (a : Addr) : cartridgeAnswers l a = true ↔
    0x8000 ≤ a.toNat ∨ (0x4020 ≤ a.toNat ∧ l.cartLowWindow = .cartridge) := by
  simp [cartridgeAnswers, BitVec.ule]

section regions

variable {a : Addr} (v : Byte) (s : State)

theorem busRead_ppuRegister (h : 0x2000 ≤ a.toNat) (h' : a.toNat < 0x4000) :
    busRead a s = ppuRegRead (a.toNat % 8) s := by
  simp only [busRead, ult_ofNat_iff, Nat.reduceMod, if_neg (Nat.not_lt.2 h), if_pos h', ppuRegNumber]

theorem busWrite_ppuRegister (h : 0x2000 ≤ a.toNat) (h' : a.toNat < 0x4000) :
    busWrite a v s = ppuRegWrite (a.toNat % 8) v s := by
  simp only [busWrite, ult_ofNat_iff, Nat.reduceMod, if_neg (Nat.not_lt.2 h), if_pos h', ppuRegNumber]

/-- From $4000 on, but for the controller port, the cartridge answers a read or the open bus does. -/
theorem busRead_upper (h : 0x4000 ≤ a.toNat) (hc : a ≠ 0x4016#16) : busRead a s =
    (if cartridgeAnswers s.launch a then s.cart.cpuRead a else s.launch.openBusValue, s) := by
  have hram : ¬ a.toNat < 0x2000 := by omega
  simp only [busRead, ult_ofNat_iff, Nat.reduceMod, if_neg hram, if_neg (Nat.not_lt.2 h), if_neg hc]
  split <;> rfl

/-- From $4000 on, but for the DMA and controller ports, the cartridge takes a write or nothing does. -/
theorem busWrite_upper (h : 0x4000 ≤ a.toNat) (hd : a ≠ 0x4014#16) (hc : a ≠ 0x4016#16) :
    busWrite a v s =
      if cartridgeAnswers s.launch a then { s with cart := s.cart.cpuWrite a v } else s := by
  have hram : ¬ a.toNat < 0x2000 := by omega
  simp only [busWrite, ult_ofNat_iff, Nat.reduceMod, if_neg hram, if_neg (Nat.not_lt.2 h), if_neg hd,
    if_neg hc]

/-- An address that the cartridge answers. -/
theorem busAccess_cartridge (h : 0x8000 ≤ a.toNat ∨ (0x4020 ≤ a.toNat ∧ s.launch.cartLowWindow = .cartridge)) :
    busRead a s = (s.cart.cpuRead a, s) ∧ busWrite a v s = { s with cart := s.cart.cpuWrite a v } := by
  have hd : a ≠ 0x4014#16 := by rintro rfl; simp at h
  have hc : a ≠ 0x4016#16 := by rintro rfl; simp at h
  rw [busRead_upper s (by omega) hc, busWrite_upper v s (by omega) hd hc,
    if_pos ((cartridgeAnswers_iff _ _).2 h), if_pos ((cartridgeAnswers_iff _ _).2 h)]
  exact ⟨rfl, rfl⟩

/-- An address from $4000 on that nothing answers: the open bus, and a write without effect. -/
theorem busAccess_unmapped (h : 0x4000 ≤ a.toNat) (hd : a ≠ 0x4014#16) (hc : a ≠ 0x4016#16)
    (hn : ¬ cartridgeAnswers s.launch a = true) :
    busRead a s = (s.launch.openBusValue, s) ∧ busWrite a v s = s := by
  rw [busRead_upper s h hc, busWrite_upper v s h hd hc, if_neg hn, if_neg hn]
  exact ⟨rfl, rfl⟩

end regions

/-- Settles O40: each region is one case of the bus's decoding, by its bounds. -/
theorem busDecode : Obligations.BusDecode := by
  intro s a v
  refine ⟨fun h => ?ram, fun h h' => ?ppu, fun h => ?dma, fun h => ?controller,
    fun h h' hd hc => ?io, fun h h' hl => ?lowUnmapped, fun h _ hl => ?lowCartridge, fun h => ?high, ?peek⟩
  case ram =>
    have hu := (ult_ofNat_iff a 0x2000).2 h
    exact ⟨busRead_ram hu s, busWrite_ram hu v s⟩
  case ppu => exact ⟨busRead_ppuRegister s h h', busWrite_ppuRegister v s h h'⟩
  case dma =>
    obtain rfl : a = 0x4014#16 := BitVec.eq_of_toNat_eq h
    exact ⟨rfl, rfl⟩
  case controller =>
    obtain rfl : a = 0x4016#16 := BitVec.eq_of_toNat_eq h
    exact ⟨rfl, rfl⟩
  case io =>
    refine busAccess_unmapped v s h (by rintro rfl; exact hd rfl) (by rintro rfl; exact hc rfl) ?_
    rw [cartridgeAnswers_iff]
    omega
  case lowUnmapped =>
    refine busAccess_unmapped v s (by omega) (by rintro rfl; simp at h) (by rintro rfl; simp at h) ?_
    rw [cartridgeAnswers_iff, hl]
    simp only [reduceCtorEq, and_false, or_false]
    omega
  case lowCartridge => exact busAccess_cartridge v s (.inr ⟨h, hl⟩)
  case high => exact busAccess_cartridge v s (.inl h)
  case peek =>
    unfold peekRead
    simp only [← BitVec.toNat_inj, BitVec.toNat_ofNat, Nat.reducePow, Nat.reduceMod]

/-! ### Words -/

theorem mkAddr_eq_ofNat (h l : Byte) : mkAddr h l = BitVec.ofNat 16 (h.toNat * 256 + l.toNat) := by
  apply BitVec.eq_of_toNat_eq
  have hh := h.isLt
  have hl := l.isLt
  rw [mkAddr, BitVec.toNat_append, ← Nat.shiftLeft_add_eq_or_of_lt hl, Nat.shiftLeft_eq,
    BitVec.toNat_ofNat, Nat.mod_eq_of_lt (by omega)]

theorem add_one_eq_ofNat (a : Addr) : a + 1#16 = BitVec.ofNat 16 ((a.toNat + 1) % 65536) := by
  apply BitVec.eq_of_toNat_eq
  rw [BitVec.toNat_add, BitVec.toNat_ofNat]
  exact (Nat.mod_mod ..).symm

theorem toNat_hi (a : Addr) : (hi a).toNat = a.toNat / 256 := by
  have := a.isLt
  rw [hi, BitVec.toNat_setWidth, BitVec.toNat_ushiftRight, Nat.shiftRight_eq_div_pow]
  omega

theorem toNat_lo (a : Addr) : (lo a).toNat = a.toNat % 256 := BitVec.toNat_setWidth ..

theorem nextOnPage_eq_ofNat (a : Addr) :
    nextOnPage a = BitVec.ofNat 16 (a.toNat / 256 * 256 + (a.toNat + 1) % 256) := by
  rw [nextOnPage, mkAddr_eq_ofNat, toNat_hi, BitVec.toNat_add, toNat_lo]
  congr 2
  exact Nat.mod_add_mod ..

/-- Settles O41: a word is two bus reads, and the second address is a sum modulo 2^16 or modulo the page. -/
theorem wordReads : Obligations.WordReads := by
  rintro s a _ _ _ rfl rfl rfl
  constructor
  · simp only [readWord, mkAddr_eq_ofNat, add_one_eq_ofNat]
  · simp only [readWordWrap, mkAddr_eq_ofNat, nextOnPage_eq_ofNat]

end Sys2Proof.Machine

/-! SUPPORT. The PPU address space by the 14 bits of an address (R58-R61): the three windows, each with what it
reads, what it writes, and the byte that reads back. -/

namespace Sys2Proof.Machine

open Sys2Proof.Claims

theorem toNat_and_3FFF (a : Addr) : (a &&& 0x3FFF#16).toNat = a.toNat % 16384 := by
  rw [BitVec.toNat_and]
  exact Nat.and_two_pow_sub_one_eq_mod a.toNat 14

/-- The bank of R60 by the address's bits 10 and 11. -/
theorem ntBank_eq_bankOf (m : Mirroring) (n : Nat) : ntBank m (n / 1024 % 4) = bankOf m n := by
  cases m <;> simp only [ntBank, bankOf] <;> omega

theorem palIndex_eq_paletteCell (a : Addr) : palIndex a = paletteCell a.toNat := by
  have h : (16 ≤ a.toNat % 32 ∧ a.toNat % 32 % 4 = 0) ↔
      (a.toNat % 32 = 16 ∨ a.toNat % 32 = 20 ∨ a.toNat % 32 = 24 ∨ a.toNat % 32 = 28) := by omega
  simp only [palIndex, paletteCell, Bool.and_eq_true, decide_eq_true_eq, beq_iff_eq, h]

section windows

variable {a : Addr} {n : Nat} (hn : a.toNat % 16384 = n) (v : Byte) (s : State)

include hn

theorem toNat_ppuAddr : (a &&& 0x3FFF#16).toNat = n := (toNat_and_3FFF a).trans hn

theorem ppuAddr_eq_ofNat : a &&& 0x3FFF#16 = BitVec.ofNat 16 n :=
  BitVec.eq_of_toNat_eq (by rw [toNat_ppuAddr hn, BitVec.toNat_ofNat]; omega)

theorem ppuAddr_ult (k : Nat) :
    (a &&& 0x3FFF#16).ult (BitVec.ofNat 16 k) = true ↔ n < k % 65536 := by
  rw [ult_ofNat_iff, toNat_ppuAddr hn]

theorem ntCell_ppuAddr (m : Mirroring) :
    ntCell m (a &&& 0x3FFF#16) = 1024 * bankOf m n + n % 1024 := by
  rw [ntCell, toNat_ppuAddr hn, ntBank_eq_bankOf]

theorem palIndex_ppuAddr : palIndex (a &&& 0x3FFF#16) = paletteCell n := by
  rw [palIndex_eq_paletteCell, toNat_ppuAddr hn]

theorem ppuRead_pattern (h : n < 0x2000) : ppuRead a s = s.cart.ppuRead (BitVec.ofNat 16 n) := by
  simp only [ppuRead, ppuAddr_ult hn, Nat.reduceMod, if_pos h, ← ppuAddr_eq_ofNat hn]

theorem ppuWrite_pattern (h : n < 0x2000) :
    ppuWrite a v s = { s with cart := s.cart.ppuWrite (BitVec.ofNat 16 n) v } := by
  simp only [ppuWrite, ppuAddr_ult hn, Nat.reduceMod, if_pos h, ← ppuAddr_eq_ofNat hn]

theorem ppuRead_nametable (h : 0x2000 ≤ n) (h' : n < 0x3F00) :
    ppuRead a s = s.ppu.nt.get (1024 * bankOf s.cart.mirroring n + n % 1024) := by
  simp only [ppuRead, ppuAddr_ult hn, Nat.reduceMod, if_neg (Nat.not_lt.2 h), if_pos h', ntCell_ppuAddr hn]

theorem ppuWrite_nametable (h : 0x2000 ≤ n) (h' : n < 0x3F00) : ppuWrite a v s = { s with ppu := { s.ppu with
    nt := s.ppu.nt.put (1024 * bankOf s.cart.mirroring n + n % 1024) v } } := by
  simp only [ppuWrite, ppuAddr_ult hn, Nat.reduceMod, if_neg (Nat.not_lt.2 h), if_pos h', ntCell_ppuAddr hn,
    State.mapPpu]

theorem ppuRead_palette (h : 0x3F00 ≤ n) : ppuRead a s =
    s.ppu.pal.get (paletteCell n) &&& (if s.ppu.mask.getLsbD 0 then 0x30#8 else 0x3F#8) := by
  have hpattern : ¬ n < 0x2000 := by omega
  simp only [ppuRead, ppuAddr_ult hn, Nat.reduceMod, if_neg hpattern, if_neg (Nat.not_lt.2 h),
    palIndex_ppuAddr hn]
  rfl

theorem ppuWrite_palette (h : 0x3F00 ≤ n) : ppuWrite a v s = { s with ppu := { s.ppu with
    pal := s.ppu.pal.put (paletteCell n) (v &&& 0x3F#8) } } := by
  have hpattern : ¬ n < 0x2000 := by omega
  simp only [ppuWrite, ppuAddr_ult hn, Nat.reduceMod, if_neg hpattern, if_neg (Nat.not_lt.2 h),
    palIndex_ppuAddr hn, State.mapPpu]

end windows

/-- Settles O42: the three windows by the address modulo 2^14; a canonical memory gives back the byte written,
and the greyscale mask lies inside the six bits kept. -/
theorem ppuAddressSpace : Obligations.PpuAddressSpace := by
  intro s a v n hn
  refine ⟨fun h => ⟨ppuRead_pattern hn s h, ppuWrite_pattern hn v s h⟩,
    fun h h' => ⟨ppuRead_nametable hn s h h', ppuWrite_nametable hn v s h h', fun hm => ?nametable⟩,
    fun h => ⟨ppuRead_palette hn s h, ppuWrite_palette hn v s h, fun hm => ?palette⟩⟩
  case nametable =>
    rw [memoryInv_iff] at hm
    rw [ppuRead_nametable hn _ h h', ppuWrite_nametable hn v s h h']
    exact s.ppu.nt.get_put_same hm.ppu.nt.wf _ _
  case palette =>
    rw [memoryInv_iff] at hm
    rw [ppuRead_palette hn _ h, ppuWrite_palette hn v s h]
    simp only [s.ppu.pal.get_put_same hm.ppu.pal.wf, BitVec.and_assoc]
    split <;> rfl

end Sys2Proof.Machine

/-! SUPPORT. The OAM-DMA (R62-R64): the model's loop as the claims' fold over the 256 bytes, and what a copy
from a page of RAM leaves. -/

namespace Sys2Proof.Machine

open Sys2Proof.Claims

/-! ### The copy as a fold -/

theorem dmaByte_eq_copyByte (i : Nat) (s : State) : dmaByte i s = copyByte s i := by
  have hcell (p : Byte) : (p + BitVec.ofNat 8 i).toNat = (p.toNat + i) % 256 := by
    rw [BitVec.toNat_add, BitVec.toNat_ofNat]
    exact Nat.add_mod_mod ..
  simp only [dmaByte, copyByte, State.mapPpu, hcell, busRead_oam]

theorem dmaBytes_eq_foldl (k i : Nat) (s : State) :
    dmaBytes k i s = (List.range' i k).foldl copyByte s := by
  induction k generalizing i s with
  | zero => rfl
  | succ k ih => rw [dmaBytes, ih, dmaByte_eq_copyByte, List.range'_succ, List.foldl_cons]

theorem dmaDrain_eq_foldl {s : State} (h : s.bus.oamDmaPpu = true) : dmaDrain s =
    { (List.range 256).foldl copyByte s with bus := { s.bus with oamDmaPpu := false } } := by
  rw [dmaDrain_copy h, dmaBytes_eq_foldl, List.range_eq_range']

/-! ### The handshake is taken once -/

theorem dmaStall_dmaStall (s : State) : dmaStall (dmaStall s) = dmaStall s := by
  obtain ⟨hb, e⟩ | ⟨hb, e⟩ := dmaStall_cases s
  · rw [e, e]
  · rw [e]
    rfl

theorem dmaStall_cpu_jammed (s : State) : (dmaStall s).cpu.jammed = s.cpu.jammed := by
  obtain ⟨-, e⟩ | ⟨-, e⟩ := dmaStall_cases s <;> rw [e]

theorem cpuClock_dmaStall {s : State} (h : s.cpu.jammed = false) : cpuClock (dmaStall s) = cpuClock s := by
  have hj : (dmaStall s).cpu.jammed = false := (dmaStall_cpu_jammed s).trans h
  simp only [cpuClock, dmaStall_dmaStall, hj, h, Bool.false_eq_true, if_false]

theorem dmaDrain_dmaDrain (s : State) : dmaDrain (dmaDrain s) = dmaDrain s := by
  obtain ⟨-, -, -, hbus⟩ := dmaDrain_frame s
  exact dmaDrain_idle (by rw [hbus])

theorem ppuClock_dmaDrain (s : State) : ppuClock (dmaDrain s) = ppuClock s := by
  simp only [ppuClock, dmaDrain_dmaDrain]

/-! ### A copy from RAM -/

/-- A byte that comes from RAM is stored in OAM, and nothing else changes. -/
theorem copyByte_ram {s : State} {i : Nat} (h : s.bus.oamDmaAddr.toNat + i < 0x2000) :
    copyByte s i = { s with ppu := { s.ppu with
      oam := s.ppu.oam.put ((s.ppu.oamAddr.toNat + i) % 256)
        (s.bus.ram.get ((s.bus.oamDmaAddr.toNat + i) % 0x800)) } } := by
  have hsum : (s.bus.oamDmaAddr + BitVec.ofNat 16 i).toNat = s.bus.oamDmaAddr.toNat + i := by
    rw [BitVec.toNat_add, BitVec.toNat_ofNat]
    omega
  have hread := busRead_ram ((ult_ofNat_iff _ 0x2000).2 (hsum.trans_lt h)) s
  rw [ramCell, hsum] at hread
  simp only [copyByte, hread]

/-- `oam` holds the first `k` bytes of the copy from RAM, from `oam_addr` on. -/
structure HoldsCopy (s : State) (k : Nat) (oam : Memory) : Prop where
  wf : oam.wf = true
  bytes : ∀ i < k, oam.get ((s.ppu.oamAddr.toNat + i) % 256) =
    s.bus.ram.get ((s.bus.oamDmaAddr.toNat + i) % 0x800)

/-- The next byte goes to a cell of its own, because at most 256 are copied. -/
theorem HoldsCopy.put {s : State} {k : Nat} {oam : Memory} (h : HoldsCopy s k oam) (hk : k < 256) :
    HoldsCopy s (k + 1) (oam.put ((s.ppu.oamAddr.toNat + k) % 256)
      (s.bus.ram.get ((s.bus.oamDmaAddr.toNat + k) % 0x800))) := by
  refine ⟨oam.wf_put _ _ h.wf, fun i hi => ?_⟩
  obtain rfl | hlt := Nat.eq_or_lt_of_le (Nat.le_of_lt_succ hi)
  · exact oam.get_put_same h.wf _ _
  · rw [oam.get_put_of_ne _ (by omega)]
    exact h.bytes i hlt

theorem foldl_copyByte_ram {s : State} (ha : s.bus.oamDmaAddr.toNat + 255 < 0x2000)
    (hw : s.ppu.oam.wf = true) {k : Nat} (hk : k ≤ 256) : ∃ oam, HoldsCopy s k oam ∧
      (List.range k).foldl copyByte s = { s with ppu := { s.ppu with oam := oam } } := by
  induction k with
  | zero => exact ⟨s.ppu.oam, ⟨hw, nofun⟩, rfl⟩
  | succ k ih =>
    obtain ⟨oam, hc, e⟩ := ih (Nat.le_of_succ_le hk)
    refine ⟨_, hc.put hk, ?_⟩
    rw [List.range_succ, List.foldl_concat, e, copyByte_ram (by simp only; omega)]

/-- Settles O43: the stall and the copy each clear their flag, so a clock takes them once; from RAM, by
induction on the number of bytes copied. -/
theorem oamDma : Obligations.OamDma := by
  refine ⟨fun s v => ?arm, fun s h => ⟨?stall, fun hj => (cpuClock_dmaStall hj).symm⟩,
    fun s h => ⟨dmaDrain_eq_foldl h, (ppuClock_dmaDrain s).symm⟩, fun s h ha hw => ?fromRam⟩
  case arm =>
    have hsrc : mkAddr v 0#8 = BitVec.ofNat 16 (v.toNat * 256) :=
      (mkAddr_eq_ofNat v 0#8).trans (congrArg _ (Nat.add_zero _))
    rw [← hsrc]
    rfl
  case stall =>
    have hodd : 513 + s.cpu.cycl % 2 = if s.cpu.cycl % 2 = 1 then 514 else 513 := by split <;> omega
    rw [dmaStall, if_pos h, Nat.add_assoc, hodd]
  case fromRam =>
    obtain ⟨oam, hc, e⟩ := foldl_copyByte_ram ha hw (Nat.le_refl 256)
    rw [dmaDrain_eq_foldl h, e]
    exact ⟨hc.bytes, rfl, rfl⟩

end Sys2Proof.Machine

/-! SUPPORT. The opcode map and the opcode table say the same (R70-R73): the map cell of an instruction's opcode
gives back the instruction, and every cell's instructions have the cell's opcode. -/

namespace Sys2Proof

/-! ### Words and their two bytes (R12, R54) -/

@[simp] theorem mkAddr_hi_lo (a : Addr) : mkAddr (hi a) (lo a) = a := by
  rw [Machine.mkAddr_eq_ofNat, hi, lo]
  bv_omega

@[simp] theorem lo_mkAddr (h l : Byte) : lo (mkAddr h l) = l := BitVec.setWidth_append_eq_right

@[simp] theorem hi_mkAddr (h l : Byte) : hi (mkAddr h l) = h := by
  rw [Machine.mkAddr_eq_ofNat, hi]
  bv_omega

/-! ### The map cell of an opcode -/

/-- The cell's instructions have the opcode `op`, and `i` is one of them: whatever operand is filled in, the
encoding is `op` and the operand's bytes, low byte first. -/
inductive Shape.Spells (op : Byte) : Shape → Instr → Prop
  | alone {i : Instr} (h : encode i = [op]) : Spells op (.alone i) i
  | byte {mk : Byte → Instr} (h : ∀ b, encode (mk b) = [op, b]) (b : Byte) : Spells op (.byte mk) (mk b)
  | word {mk : Addr → Instr} (h : ∀ a, encode (mk a) = [op, lo a, hi a]) (a : Addr) :
      Spells op (.word mk) (mk a)

/-- Row by row of the opcode table: the map has the instruction in the cell of its opcode, and the row is
legal. (`dsimp` makes the opcode a literal, by which the cell is then looked up.) -/
theorem Instr.spelled_and_wellFormed (i : Instr) :
    (cellOf i.row.opcode).Spells i.row.opcode i ∧ i.wellFormed = true := by
  cases i <;> dsimp only [Instr.row]
  case tax | tay | txa | tya | tsx | txs | pha | php | pla | plp | inx | iny | dex | dey | aslAcc | lsrAcc
    | rolAcc | rorAcc | rts | brk | rti | clc | sec | cli | sei | clv | cld | sed | nop | nop1A | nop3A
    | nop5A | nop7A | nopDA | nopFA | kil02 | kil12 | kil22 | kil32 | kil42 | kil52 | kil62 | kil72 | kil92
    | kilB2 | kilD2 | kilF2 =>
    exact ⟨.alone rfl, Laws.RowLegal.of_row 0 rfl rfl (by decide)⟩
  case ldaIzx | ldaZp | ldaImm | ldaIzy | ldaZpx | ldxImm | ldxZp | ldxZpy | ldyImm | ldyZp | ldyZpx | staIzx
    | staZp | staIzy | staZpx | stxZp | stxZpy | styZp | styZpx | adcIzx | adcZp | adcImm | adcIzy | adcZpx
    | sbcIzx | sbcZp | sbcImm | sbcIzy | sbcZpx | andIzx | andZp | andImm | andIzy | andZpx | oraIzx | oraZp
    | oraImm | oraIzy | oraZpx | eorIzx | eorZp | eorImm | eorIzy | eorZpx | bitZp | cmpIzx | cmpZp | cmpImm
    | cmpIzy | cmpZpx | cpxImm | cpxZp | cpyImm | cpyZp | incZp | incZpx | decZp | decZpx | aslZp | aslZpx
    | lsrZp | lsrZpx | rolZp | rolZpx | rorZp | rorZpx | bpl | bmi | bvc | bvs | bcc | bcs | bne | beq
    | sbcImmEB | nopZp04 | nopZpx14 | nopZpx34 | nopZp44 | nopZpx54 | nopZp64 | nopZpx74 | nopImm80
    | nopImm82 | nopImm89 | nopImmC2 | nopZpxD4 | nopImmE2 | nopZpxF4 | sloIzx | sloZp | sloIzy | sloZpx
    | rlaIzx | rlaZp | rlaIzy | rlaZpx | sreIzx | sreZp | sreIzy | sreZpx | rraIzx | rraZp | rraIzy | rraZpx
    | dcpIzx | dcpZp | dcpIzy | dcpZpx | isbIzx | isbZp | isbIzy | isbZpx | laxIzx | laxZp | laxIzy | laxZpy
    | saxIzx | saxZp | saxZpy | aacImm0B | aacImm2B | asrImm | arrImm | axsImm | aneImm | lxaImm | shaIzy =>
    exact ⟨.byte (fun _ => rfl) _, Laws.RowLegal.of_row 1 rfl rfl (by decide)⟩
  case ldaAbs | ldaAby | ldaAbx | ldxAbs | ldxAby | ldyAbs | ldyAbx | staAbs | staAby | staAbx | stxAbs
    | styAbs | adcAbs | adcAby | adcAbx | sbcAbs | sbcAby | sbcAbx | andAbs | andAby | andAbx | oraAbs
    | oraAby | oraAbx | eorAbs | eorAby | eorAbx | bitAbs | cmpAbs | cmpAby | cmpAbx | cpxAbs | cpyAbs
    | incAbs | incAbx | decAbs | decAbx | aslAbs | aslAbx | lsrAbs | lsrAbx | rolAbs | rolAbx | rorAbs
    | rorAbx | jmpAbs | jmpInd | jsrAbs | nopAbs | nopAbx1C | nopAbx3C | nopAbx5C | nopAbx7C | nopAbxDC
    | nopAbxFC | sloAbs | sloAby | sloAbx | rlaAbs | rlaAby | rlaAbx | sreAbs | sreAby | sreAbx | rraAbs
    | rraAby | rraAbx | dcpAbs | dcpAby | dcpAbx | isbAbs | isbAby | isbAbx | laxAbs | laxAby | saxAbs
    | shaAby | shxAby | shyAbx | tasAby | lasAby =>
    exact ⟨.word (fun _ => rfl) _, Laws.RowLegal.of_row 2 rfl rfl (by decide)⟩

theorem Instr.wellFormed_eq_true (i : Instr) : i.wellFormed = true := i.spelled_and_wellFormed.2

theorem Instr.two_le_cycles (i : Instr) : 2 ≤ i.row.cycles := by
  have h := i.wellFormed_eq_true
  simp only [Instr.wellFormed, Row.wellFormed, Row.cyclesLegal, Bool.and_eq_true, decide_eq_true_eq] at h
  obtain ⟨⟨⟨-, h2, -⟩, -⟩, -⟩ := h
  exact h2

/-- Each of the 256 opcodes is that of the instruction in its cell. -/
theorem opcode_decodeWith_zero : ∀ op : Byte, (decodeWith op 0#8 0#8).row.opcode = op := by decide

theorem cellOf_spells (op : Byte) : (cellOf op).Spells op (decodeWith op 0#8 0#8) := by
  have h := (decodeWith op 0#8 0#8).spelled_and_wellFormed.1
  rwa [opcode_decodeWith_zero] at h

/-! ### Decoding and encoding by the cells -/

/-- No instruction is longer than three bytes (R70). -/
theorem operandCount_le_two (op : Byte) : operandCount op ≤ 2 := by
  unfold operandCount Shape.operandCount
  split <;> decide

theorem decode_cons_of_le {op : Byte} {bytes : List Byte} (h : operandCount op ≤ bytes.length) :
    decode (op :: bytes) =
      .ok (decodeWith op (bytes.getD 0 0#8) (bytes.getD 1 0#8), bytes.drop (operandCount op)) :=
  if_neg (Nat.not_lt.mpr h)

/-- What `decode` can answer with: an opcode with enough bytes after it. -/
theorem decode_ok {bytes rest : List Byte} {i : Instr} (h : decode bytes = .ok (i, rest)) :
    ∃ op tail, bytes = op :: tail ∧ operandCount op ≤ tail.length ∧
      i = decodeWith op (tail.getD 0 0#8) (tail.getD 1 0#8) ∧ rest = tail.drop (operandCount op) := by
  cases bytes with
  | nil => cases h
  | cons op tail =>
    by_cases hl : operandCount op ≤ tail.length
    · rw [decode_cons_of_le hl] at h
      cases h
      exact ⟨op, tail, rfl, hl, rfl, rfl⟩
    · rw [decode, if_pos (Nat.not_le.mp hl)] at h
      cases h

/-- The cell of an opcode takes just the operand bytes of its instruction, whatever follows them. -/
theorem decode_of_spells {op : Byte} {i : Instr} (h : (cellOf op).Spells op i) (rest : List Byte) :
    decode (encode i ++ rest) = .ok (i, rest) := by
  generalize hc : cellOf op = sh at h
  have hn : operandCount op = sh.operandCount := congrArg _ hc
  cases h with
  | alone he | byte he b | word he a =>
    simp [he, decode, hn, Shape.operandCount, decodeWith, hc, Shape.build]

theorem decode_encode (i : Instr) (rest : List Byte) : decode (encode i ++ rest) = .ok (i, rest) :=
  decode_of_spells i.spelled_and_wellFormed.1 rest

/-- Filling a cell with the bytes that follow the opcode, and encoding, gives the bytes it took. -/
theorem Shape.Spells.encode_build {op : Byte} {sh : Shape} {i : Instr} (h : sh.Spells op i)
    {bytes : List Byte} (hl : sh.operandCount ≤ bytes.length) :
    encode (sh.build (bytes.getD 0 0#8) (bytes.getD 1 0#8)) = op :: bytes.take sh.operandCount := by
  cases h with
  | alone he => exact he
  | byte he =>
    match bytes, hl with
    | b0 :: _, _ => exact he b0
  | word he =>
    match bytes, hl with
    | b0 :: b1 :: _, _ => simp [build, operandCount, he]

/-! ### The statements -/

/-- Settles O23: the map cell of an instruction's opcode takes as many bytes as the instruction has operand
bytes, and gives it back from them. -/
theorem decodeOfEncode : Obligations.DecodeOfEncode :=
  fun i rest _ => decode_encode i rest

/-- Settles O24: three bytes are enough for any opcode, and filling its cell with the bytes read spells them. -/
theorem encodeOfDecode : Obligations.EncodeOfDecode := by
  refine ⟨fun b0 b1 b2 rest => ⟨_, _, decode_cons_of_le ?_⟩,
    fun bytes rest i h => ⟨i.wellFormed_eq_true, ?_⟩⟩
  · have h2 := operandCount_le_two b0
    simp only [List.length_cons]
    omega
  · obtain ⟨op, tail, rfl, hl, rfl, rfl⟩ := decode_ok h
    rw [decodeWith, (cellOf_spells op).encode_build hl]
    exact congrArg (op :: ·) (List.take_append_drop _ tail)

/-- Settles O22: each word but the last is an instruction's encoding and what follows it, so it decodes to the
instruction; the last is cut short. -/
theorem decodesTableWords : Obligations.DecodesTableWords :=
  ⟨decode_encode (.ldaImm 0x80#8) [], decode_encode (.staAbs 0x4014#16) [],
    decode_encode (.adcIzy 0x20#8) [0xEA#8], decode_encode (.jmpInd 0x02FF#16) [],
    decode_encode .brk [0x55#8], decode_encode (.saxZpy 0x10#8) [], decode_encode (.sbcImmEB 0x05#8) [],
    decode_encode .kil02 [], rfl⟩

/-- Settles O25: by `exec_runs` an instruction is busy for its row's cycles and its mode's extra ones; a legal
row has 2 cycles at least. -/
theorem cyclesFollowTheTable : Obligations.CyclesFollowTheTable := by
  intro i s t ht
  obtain ⟨hcycl, ⟨extra, hle, hnext⟩, -⟩ := Machine.exec_runs i s t ht
  refine ⟨hcycl, i.two_le_cycles, extra, hnext, hle.trans ?_, fun hm => hle.trans_eq (if_neg hm)⟩
  unfold Machine.cycleSlack
  split_ifs <;> decide

end Sys2Proof

/-! SUPPORT. The tick by its cases (R82, R83, R87): jammed, busy, an interrupt to take, an instruction to
run. -/

namespace Sys2Proof.Machine

open Sys2Proof.Claims

/-! ### The tick -/

/-- The tick of a CPU that is not jammed: the stall, the work that is due, and the rest of the tick. -/
theorem step_of_running {s : State} (h : s.cpu.jammed = false) :
    step s = restOfTick (dueWork (dmaStall s)) := by
  simp only [step, tick, cpuClock, h, Bool.false_eq_true, if_false]
  cases dueWork (dmaStall s) <;> rfl

theorem step_of_jammed {s : State} (h : s.cpu.jammed = true) : step s = .next (ppuClocks 3 s) := by
  simp only [step, tick, cpuClock, h, if_true]
  rfl

theorem dmaStall_idle {s : State} (h : s.bus.oamDmaCpu = false) : dmaStall s = s := by
  simp [dmaStall, h]

theorem dueWork_busy {s : State} (h : s.cpu.cycl ≠ s.cpu.next) : dueWork s = .next s := if_neg h

theorem dueWork_interrupt {s : State} {k : Interrupt} (h : s.cpu.cycl = s.cpu.next)
    (hp : pendingInterrupt s = some k) : dueWork s = .next (takeInterrupt k s) := by
  simp only [dueWork, if_pos h, hp]

theorem dueWork_instruction {s : State} (h : s.cpu.cycl = s.cpu.next) (hp : pendingInterrupt s = none) :
    dueWork s = exec (fetchInstr s).1 (fetchInstr s).2 := by
  simp only [dueWork, if_pos h, hp]

/-- Settles O27: the tick by its cases, and the counter on either side of its wrap. -/
theorem busyTicksOnlyCount : Obligations.BusyTicksOnlyCount := by
  refine ⟨fun s hj hd hb => ?_, fun s => step_of_jammed, fun c hc => if_neg (by omega), fun c hc _ => ?_⟩
  · rw [step_of_running hj, dmaStall_idle hd, dueWork_busy hb]
  · rw [Cpu.countCycle, if_pos (by omega), hc]

/-! ### A jammed CPU -/

theorem ppuClocks_frame (n : Nat) (s : State) :
    (ppuClocks n s).cpu = s.cpu ∧ (ppuClocks n s).bus.ram = s.bus.ram := by
  induction n generalizing s with
  | zero => exact ⟨rfl, rfl⟩
  | succ n ih =>
    obtain ⟨hcpu, -, -, b, hbus⟩ := ppuClock_frame s
    obtain ⟨hcpu', hram'⟩ := ih (ppuClock s)
    exact ⟨hcpu'.trans hcpu, hram'.trans (by rw [hbus])⟩

/-- Settles O31: a tick of a jammed CPU runs the PPU alone, so the CPU is jammed at the next one too. -/
theorem jammedCpuIsFrozen : Obligations.JammedCpuIsFrozen := by
  intro k
  induction k with
  | zero => exact fun s _ => ⟨s, rfl, rfl, rfl⟩
  | succ k ih =>
    intro s h
    obtain ⟨hcpu, hram⟩ := ppuClocks_frame 3 s
    obtain ⟨t, hrun, hcpu', hram'⟩ := ih (ppuClocks 3 s) (by rw [hcpu]; exact h)
    refine ⟨t, ?_, hcpu'.trans hcpu, hram'.trans hram⟩
    have hstep : core.step s = .next (ppuClocks 3 s) := step_of_jammed h
    simp only [Host.Core.run, hstep, hrun]

/-! ### The interrupt check -/

theorem pendingInterrupt_irq {s : State} (h : s.bus.irqLine = true) (hi : s.cpu.i = false) :
    pendingInterrupt s = some .irq := by
  simp [pendingInterrupt, h, hi]

/-- With IRQ low or masked the check looks at the NMI request alone. -/
theorem pendingInterrupt_of_no_irq {s : State} (h : ¬ (s.bus.irqLine = true ∧ s.cpu.i = false)) :
    pendingInterrupt s = if s.bus.nmiSignal then some .nmi else none := by
  have hno : (s.bus.irqLine && !s.cpu.i) = false := by simpa using h
  simp only [pendingInterrupt, hno, Bool.false_eq_true, if_false]

/-- A clock at which the CPU is due and an interrupt is pending enters it and counts the cycle. -/
theorem cpuClock_interrupt {s : State} {k : Interrupt} (h : due s) (hp : pendingInterrupt s = some k) :
    cpuClock s = .next ((takeInterrupt k s).mapCpu Cpu.countCycle) := by
  obtain ⟨hj, hd, hdue⟩ := h
  simp only [cpuClock, hj, Bool.false_eq_true, if_false, dmaStall_idle hd, dueWork_interrupt hdue hp]

/-- An interrupt's entry leaves the NMI request alone, and masks IRQ. -/
theorem enterInterrupt_nmiSignal (k : Interrupt) (s : State) :
    (enterInterrupt k s).bus.nmiSignal = s.bus.nmiSignal := by
  simp [enterInterrupt, enterVia, readWord_vector, pushAddr, push_eq]

theorem enterInterrupt_i (k : Interrupt) (s : State) : (enterInterrupt k s).cpu.i = true := by
  obtain ⟨pc, e⟩ := enterVia_cpu s.cpu.pc s.cpu.pushedByInterrupt k.vector s
  rw [enterInterrupt, State.mapCpu_cpu, e]
  exact s.cpu.setI_i true

/-- Settles O29: the check by the IRQ line, I and the NMI request; an entry sets I and keeps the request. -/
theorem interruptPriority : Obligations.InterruptPriority := by
  intro s h
  refine ⟨fun hl hi => ?_, fun hno hn => ?_, fun _ _ hn => ?_, fun hno hn => ?_⟩
  · rw [cpuClock_interrupt h (pendingInterrupt_irq hl hi), takeInterrupt]
  · rw [cpuClock_interrupt h ((pendingInterrupt_of_no_irq hno).trans (if_pos hn)), takeInterrupt]
  · rw [pendingInterrupt_of_no_irq (by simp [enterInterrupt_i]), enterInterrupt_nmiSignal, if_pos hn]
  · rw [pendingInterrupt_of_no_irq (by rintro ⟨hl, hi⟩; simp [hl, hi] at hno), hn]
    rfl

end Sys2Proof.Machine

/-! SUPPORT. The instruction that a tick fetches (R82, R85, R86): the bytes at PC, and the opcode in the row of
the instruction they spell. -/

namespace Sys2Proof.Machine

open Sys2Proof.Claims

/-! ### The instruction of an opcode and the bytes after it -/

theorem encode_decodeWith (op : Byte) {bytes : List Byte} (h : operandCount op ≤ bytes.length) :
    encode (decodeWith op (bytes.getD 0 0#8) (bytes.getD 1 0#8)) = op :: bytes.take (operandCount op) :=
  (cellOf_spells op).encode_build h

theorem row_decodeWith (op b1 b2 : Byte) : (decodeWith op b1 b2).row.opcode = op ∧
    (decodeWith op b1 b2).row.mode.length = operandCount op + 1 := by
  have h2 := operandCount_le_two op
  obtain ⟨hop, hops⟩ := List.cons.inj (encode_decodeWith op (bytes := [b1, b2]) h2)
  have hcount := (congrArg List.length hops).trans (List.length_take_of_le h2)
  have hwf := (decodeWith op b1 b2).wellFormed_eq_true
  simp only [Instr.wellFormed, Row.wellFormed, Row.lengthLegal, Bool.and_eq_true, beq_iff_eq] at hwf
  obtain ⟨⟨⟨hlen, -⟩, -⟩, -⟩ := hwf
  exact ⟨hop, hlen.symm.trans (congrArg (· + 1) hcount)⟩

theorem encode_injective {i j : Instr} (h : encode i = encode j) : i = j := by
  have hd := decode_encode i []
  rw [h, decode_encode] at hd
  exact (Prod.mk.inj (Except.ok.inj hd)).1.symm

/-- The bytes that an opcode does not take make no difference. -/
theorem decodeWith_congr {op : Byte} {bytes bytes' : List Byte} (h : operandCount op ≤ bytes.length)
    (h' : operandCount op ≤ bytes'.length)
    (e : bytes.take (operandCount op) = bytes'.take (operandCount op)) :
    decodeWith op (bytes.getD 0 0#8) (bytes.getD 1 0#8) =
      decodeWith op (bytes'.getD 0 0#8) (bytes'.getD 1 0#8) :=
  encode_injective (by rw [encode_decodeWith op h, encode_decodeWith op h', e])

/-! ### Fetching from memory without side effects -/

/-- A read at a plain address is the byte there, and changes nothing. -/
theorem busRead_plain {a : Addr} {s : State} (h : plain a s) : busRead a s = (byteAt a s, s) := by
  unfold byteAt
  split
  · exact busRead_ram ‹_› s
  · exact (busAccess_cartridge 0#8 s ((cartridgeAnswers_iff _ _).1 (h.resolve_left ‹_›))).1

theorem fetchByte_plain {s : State} (h : plain s.cpu.pc s) :
    fetchByte s = (byteAt s.cpu.pc s, s.setPc (s.cpu.pc + 1#16)) := by
  simp only [fetchByte, busRead_plain h]
  rfl

/-- Byte `k + 1` from `a` on is byte `k` from `a + 1` on. -/
theorem add_ofNat_succ (a : Addr) (k : Nat) : a + BitVec.ofNat 16 (k + 1) = a + 1#16 + BitVec.ofNat 16 k := by
  rw [Nat.add_comm, BitVec.ofNat_add, BitVec.add_assoc]

/-- The `k` bytes of memory from `a` on. -/
def bytesFrom (k : Nat) (a : Addr) (s : State) : List Byte :=
  match k with
  | 0 => []
  | k + 1 => byteAt a s :: bytesFrom k (a + 1#16) s

theorem length_bytesFrom (k : Nat) (a : Addr) (s : State) : (bytesFrom k a s).length = k := by
  induction k generalizing a with
  | zero => rfl
  | succ k ih => exact congrArg (· + 1) (ih _)

theorem take_bytesFrom {j k : Nat} (h : j ≤ k) (a : Addr) (s : State) :
    (bytesFrom k a s).take j = bytesFrom j a s := by
  induction j generalizing k a with
  | zero => rfl
  | succ j ih =>
    obtain ⟨k, rfl⟩ := Nat.exists_eq_add_of_lt h
    exact congrArg (byteAt a s :: ·) (ih (Nat.le_add_right j k) _)

theorem bytesFrom_setPc (k : Nat) (a pc : Addr) (s : State) : bytesFrom k a (s.setPc pc) = bytesFrom k a s := by
  induction k generalizing a with
  | zero => rfl
  | succ k ih => exact congrArg (byteAt a s :: ·) (ih _)

theorem fetchBytes_plain {k : Nat} {s : State} (h : ∀ j < k, plain (s.cpu.pc + BitVec.ofNat 16 j) s) :
    fetchBytes k s = (bytesFrom k s.cpu.pc s, s.setPc (s.cpu.pc + BitVec.ofNat 16 k)) := by
  induction k generalizing s with
  | zero => simp [fetchBytes, bytesFrom, State.setPc, State.mapCpu]
  | succ k ih =>
    have h0 : plain s.cpu.pc s := by simpa using h 0 (Nat.succ_pos k)
    have hk := ih (s := s.setPc (s.cpu.pc + 1#16)) fun j hj => by
      have hj' := h (j + 1) (Nat.succ_lt_succ hj)
      rwa [add_ofNat_succ] at hj'
    simp only [bytesFrom_setPc] at hk
    rw [add_ofNat_succ s.cpu.pc k, fetchBytes, fetchByte_plain h0, hk]
    rfl

/-- An instruction is its opcode and as many bytes after it as the opcode takes. -/
theorem fetchInstr_of_fetchBytes {op : Byte} {bytes : List Byte} {s t : State}
    (h : fetchBytes (operandCount op + 1) s = (op :: bytes, t)) :
    fetchInstr s = (decodeWith op (bytes.getD 0 0#8) (bytes.getD 1 0#8), t) := by
  obtain ⟨hcons, ht⟩ := Prod.mk.inj h
  obtain ⟨hop, hbytes⟩ := List.cons.inj hcons
  rw [fetchInstr, hop, hbytes, ht]

/-- The instruction that memory holds at PC is the one fetched, and PC then is past it. -/
theorem fetchInstr_plain {s : State} {i : Instr} {rest : List Byte}
    (h : ∀ k < i.row.mode.length, plain (s.cpu.pc + BitVec.ofNat 16 k) s)
    (hd : decode (bytesFrom 3 s.cpu.pc s) = .ok (i, rest)) :
    fetchInstr s = (i, s.setPc (s.cpu.pc + BitVec.ofNat 16 i.row.mode.length)) := by
  obtain ⟨op, tail, e, hcount, rfl, -⟩ := decode_ok hd
  obtain ⟨rfl, rfl⟩ : byteAt s.cpu.pc s = op ∧ bytesFrom 2 (s.cpu.pc + 1#16) s = tail := List.cons.inj e
  rw [(row_decodeWith _ _ _).2] at h ⊢
  rw [fetchInstr_of_fetchBytes (fetchBytes_plain h)]
  refine Prod.ext (decodeWith_congr (length_bytesFrom _ _ _).ge hcount ?_) rfl
  rw [take_bytesFrom le_rfl, take_bytesFrom (operandCount_le_two _)]

/-- Settles O26: a due tick fetches and runs, and from plain memory it fetches what decodes there. -/
theorem stepRunsTheInstruction : Obligations.StepRunsTheInstruction := by
  have hstep : ∀ s : State, due s → pendingInterrupt s = none →
      step s = restOfTick (exec (fetchInstr s).1 (fetchInstr s).2) := by
    rintro s ⟨hj, hd, hdue⟩ hp
    rw [step_of_running hj, dmaStall_idle hd, dueWork_instruction hdue hp]
  refine ⟨fun s i rest h hp hplain hdec => ?_, hstep⟩
  have h2 : s.cpu.pc + 2#16 = s.cpu.pc + 1#16 + 1#16 := add_ofNat_succ s.cpu.pc 1
  rw [h2] at hdec
  rw [hstep s h hp, fetchInstr_plain hplain hdec]

end Sys2Proof.Machine

/-! SUPPORT. Refusals (R86, R182, R232): which instructions refuse, and that the stall before a fetch does not
change the opcode read. -/

namespace Sys2Proof.Machine

open Sys2Proof.Claims

/-! ### The opcode that a tick fetches -/

theorem ppuRegRead_dmaStall (r : Nat) (s : State) : (ppuRegRead r (dmaStall s)).1 = (ppuRegRead r s).1 := by
  obtain ⟨-, e⟩ | ⟨-, e⟩ := dmaStall_cases s <;> rw [e]
  unfold ppuRegRead
  split
  · rfl
  · rfl
  · simp only [readPpuData]
    split <;> rfl
  · rfl

/-- The stall changes no byte that a bus read gives. -/
theorem busRead_dmaStall (a : Addr) (s : State) : (busRead a (dmaStall s)).1 = (busRead a s).1 := by
  have hreg := ppuRegRead_dmaStall (ppuRegNumber a) s
  obtain ⟨-, e⟩ | ⟨-, e⟩ := dmaStall_cases s <;> rw [e] at hreg ⊢
  unfold busRead
  split
  · rfl
  split
  · exact hreg
  split
  · rfl
  split <;> rfl

theorem dmaStall_pc_launch (s : State) : (dmaStall s).cpu.pc = s.cpu.pc ∧ (dmaStall s).launch = s.launch := by
  obtain ⟨-, e⟩ | ⟨-, e⟩ := dmaStall_cases s <;> rw [e] <;> exact ⟨rfl, rfl⟩

theorem fetchInstr_launch (s : State) : (fetchInstr s).2.launch = s.launch :=
  (fetchBytes_launch _ _).trans (fetchByte_launch s)

theorem fetchInstr_opcode (s : State) : (fetchInstr s).1.row.opcode = (busRead s.cpu.pc s).1 :=
  (row_decodeWith _ _ _).1

/-! ### Which instructions refuse -/

/-- An unstable opcode whose meaning answers a next state is refused by the policy alone. -/
theorem unstable_refused {op : Byte} {s t : State} {r : Refusal}
    (h : unstable op s (.next t) = .refused r) :
    s.launch.unstablePolicy = .refuse ∧ r = .unstableOpcode op := by
  cases hp : s.launch.unstablePolicy with
  | refuse =>
    rw [unstable_refuse hp] at h
    exact ⟨rfl, (Host.Outcome.refused.inj h).symm⟩
  | nmos =>
    rw [unstable_nmos hp] at h
    cases h

theorem branchIf_ne_refused (cond : Cpu → Bool) (d : Byte) (s : State) (r : Refusal) :
    branchIf cond d s ≠ .refused r := by
  unfold branchIf
  extract_lets target
  split <;> nofun

theorem exec_refused {i : Instr} {s : State} {r : Refusal} (h : exec i s = .refused r) :
    s.launch.unstablePolicy = .refuse ∧ r = .unstableOpcode i.row.opcode ∧
      i.row.opcode ∈ unstableOpcodes := by
  unfold exec at h
  cases i with
  | aneImm | lxaImm | shaIzy | shaAby | shxAby | shyAbx | tasAby | lasAby =>
    obtain ⟨hp, hr⟩ := unstable_refused h
    exact ⟨hp, hr, of_decide_eq_true rfl⟩
  | bpl | bmi | bvc | bvs | bcc | bcs | bne | beq => exact absurd h (branchIf_ne_refused _ _ _ _)
  | _ => cases h

theorem dueWork_refused {s : State} {r : Refusal} (h : dueWork s = .refused r) :
    exec (fetchInstr s).1 (fetchInstr s).2 = .refused r := by
  by_cases hdue : s.cpu.cycl = s.cpu.next
  · cases hp : pendingInterrupt s with
    | none => rwa [dueWork_instruction hdue hp] at h
    | some k =>
      rw [dueWork_interrupt hdue hp] at h
      cases h
  · rw [dueWork_busy hdue] at h
    cases h

theorem step_refused {s : State} {r : Refusal} (h : step s = .refused r) :
    dueWork (dmaStall s) = .refused r := by
  cases hj : s.cpu.jammed with
  | true =>
    rw [step_of_jammed hj] at h
    cases h
  | false =>
    rw [step_of_running hj] at h
    generalize dueWork (dmaStall s) = x at h ⊢
    cases x with
    | refused => exact h
    | next | fault => cases h

/-- Settles O34: a refusal comes from the instruction fetched, which names the opcode in its row, the one read
at PC. -/
theorem refusesOnlyUnstableOpcodes : Obligations.RefusesOnlyUnstableOpcodes := by
  refine ⟨fun s r h => ?_, fun s b w h => ?_⟩
  · obtain ⟨hpc, hlaunch⟩ := dmaStall_pc_launch s
    have hx := exec_refused (dueWork_refused (step_refused h))
    rwa [fetchInstr_launch, hlaunch, fetchInstr_opcode, busRead_dmaStall, hpc] at hx
  · simp only [unstableForms, aneForms, lxaForms, shaForms, shxForms, shyForms, tasForms, lasForms,
      List.cons_append, List.nil_append, List.forall_mem_cons]
    exact ⟨unstable_refuse h, unstable_refuse h, unstable_refuse h, unstable_refuse h, unstable_refuse h,
      unstable_refuse h, unstable_refuse h, unstable_refuse h, List.forall_mem_nil _⟩

end Sys2Proof.Machine

/-! SUPPORT. The addressing modes (40_cpu_step.md section 2): address sums in 16 bits as sums of naturals, and
the page-cross cycle as the carry out of the low byte (R101). -/

namespace Sys2Proof.Machine

open Sys2Proof.Claims

theorem zext16_eq_ofNat (b : Byte) : zext16 b = BitVec.ofNat 16 b.toNat :=
  BitVec.eq_of_toNat_eq ((BitVec.toNat_setWidth ..).trans (BitVec.toNat_ofNat ..).symm)

theorem zext16_add_eq_ofNat (b x : Byte) : zext16 (b + x) = BitVec.ofNat 16 ((b.toNat + x.toNat) % 256) := by
  rw [zext16_eq_ofNat, BitVec.toNat_add]

theorem add_zext16_eq_ofNat (w : Addr) (x : Byte) : w + zext16 x = BitVec.ofNat 16 (w.toNat + x.toNat) := by
  rw [zext16_eq_ofNat]
  bv_omega

/-- The low byte of the sum is below the index just when the low bytes carry (R101). -/
theorem pageExtra_eq (p : Bool) (w : Addr) (x : Byte) : pageExtra p (w + zext16 x) x =
    if p = true ∧ 255 < w.toNat % 256 + x.toNat then 1 else 0 := by
  have hcarry : (lo (w + zext16 x)).ult x = true ↔ 255 < w.toNat % 256 + x.toNat := by
    have hx := x.isLt
    rw [BitVec.ult_iff_lt, BitVec.lt_def, toNat_lo, add_zext16_eq_ofNat, BitVec.toNat_ofNat]
    omega
  simp only [pageExtra, Bool.and_eq_true, hcarry]

theorem toNat_mkAddr_mod (h l : Byte) : (mkAddr h l).toNat % 256 = l.toNat := by
  rw [← toNat_lo, lo_mkAddr]

/-- The high byte's address wraps in page 0. -/
theorem nextOnPage_zeroPage {n : Nat} (h : n < 256) :
    nextOnPage (BitVec.ofNat 16 n) = BitVec.ofNat 16 ((n + 1) % 256) := by
  rw [nextOnPage_eq_ofNat, BitVec.toNat_ofNat, Nat.mod_eq_of_lt (by omega)]
  congr 1
  omega

theorem operandByte_of_ne_imm {o : Operand} (h : ∀ x, o ≠ .imm x) (r : Resolved) :
    operandByte o r = busRead r.ea r.state := by
  cases o with
  | imm x => exact absurd rfl (h x)
  | _ => rfl

/-- Settles O17: mode by mode, each address as a sum of naturals; a pointer's second byte is next to its first
on the page. -/
theorem addressingModes : Obligations.AddressingModes := by
  intro s b w p
  refine ⟨rfl, ?zp, ?zpx, ?zpy, rfl, ?abx, ?aby, ?rel, ?izx, ?izy, ?ind,
    fun e => ⟨rfl, fun o h => operandByte_of_ne_imm h e⟩⟩
  case zp => rw [resolve, zext16_eq_ofNat]
  case zpx | zpy => rw [resolve, zext16_add_eq_ofNat]
  case abx | aby =>
    simp only [resolve, pageExtra_eq]
    rw [add_zext16_eq_ofNat]
  case rel => rfl
  case izx =>
    rintro _ _ rfl rfl
    simp only [resolve, readWordWrap, zext16_add_eq_ofNat, nextOnPage_zeroPage (Nat.mod_lt _ (by decide)),
      Nat.mod_add_mod]
  case izy =>
    rintro _ _ rfl rfl
    simp only [resolve, readWordWrap, zext16_eq_ofNat b, nextOnPage_zeroPage b.isLt, pageExtra_eq,
      toNat_mkAddr_mod]
    rw [add_zext16_eq_ofNat]
  case ind =>
    rintro _ _ rfl rfl
    simp only [resolve, readWordWrap, nextOnPage_eq_ofNat]

end Sys2Proof.Machine

/-! SUPPORT. What an instruction may do to memory (R102, R103): nothing, one store at its effective address, or
pushes. Reads change no byte of any memory, and a store reaches the PPU through its registers alone. -/

namespace Sys2Proof.Machine

open Sys2Proof.Claims

/-! ### Reads -/

/-- No byte of memory, no line of the bus and no launch parameter differs. -/
structure SameMemory (s t : State) : Prop where
  bus : t.bus = s.bus
  cart : t.cart = s.cart
  launch : t.launch = s.launch
  oam : t.ppu.oam = s.ppu.oam
  nt : t.ppu.nt = s.ppu.nt
  pal : t.ppu.pal = s.ppu.pal
  frame : t.ppu.frame = s.ppu.frame

namespace SameMemory

variable {s t : State}

protected theorem refl (s : State) : SameMemory s s := ⟨rfl, rfl, rfl, rfl, rfl, rfl, rfl⟩

theorem byteAt (h : SameMemory s t) (a : Addr) : byteAt a t = byteAt a s := by
  simp only [Claims.byteAt, h.bus, h.cart]

theorem frameByte (h : SameMemory s t) (n : Nat) : t.ppu.frameByte n = s.ppu.frameByte n := by
  simp only [Ppu.frameByte, h.frame]

protected theorem mapCpu (h : SameMemory s t) (f : Cpu → Cpu) : SameMemory s (t.mapCpu f) := { h with }

protected theorem setPc (h : SameMemory s t) (a : Addr) : SameMemory s (t.setPc a) := h.mapCpu _

protected theorem busyFor (h : SameMemory s t) (n : Nat) : SameMemory s (t.busyFor n) := h.mapCpu _

protected theorem busRead (h : SameMemory s t) (a : Addr) : SameMemory s (busRead a t).2 where
  bus := (busRead_bus a t).trans h.bus
  cart := (busRead_cart a t).trans h.cart
  launch := (busRead_launch a t).trans h.launch
  oam := (busRead_oam a t).trans h.oam
  nt := (busRead_nt a t).trans h.nt
  pal := (busRead_pal a t).trans h.pal
  frame := (busRead_frame a t).trans h.frame

protected theorem readWordWrap (h : SameMemory s t) (a : Addr) : SameMemory s (readWordWrap a t).2 :=
  (h.busRead _).busRead _

protected theorem resolve (h : SameMemory s t) (o : Operand) (p : Bool) :
    SameMemory s (resolve o p t).state := by
  cases o with
  | izx | izy | ind => exact h.readWordWrap _
  | imm | zp | zpx | zpy | rel | abs | abx | aby => exact h

protected theorem operandByte {r : Resolved} (h : SameMemory s r.state) (o : Operand) :
    SameMemory s (operandByte o r).2 := by
  cases o with
  | imm => exact h
  | _ => exact h.busRead _

protected theorem pull (h : SameMemory s t) : SameMemory s (pull t).2 := (h.mapCpu _).busRead _

protected theorem pullAddr (h : SameMemory s t) : SameMemory s (pullAddr t).2 := h.pull.pull

protected theorem returnFromInterrupt (h : SameMemory s t) : SameMemory s (returnFromInterrupt t) := by
  unfold returnFromInterrupt
  exact ((h.pull.mapCpu _).pullAddr).setPc _

end SameMemory

/-! ### The PPU's registers and memories -/

/-- The address of a PPU register or of a mirror of one (R45). -/
abbrev PpuRegister (a : Addr) : Prop := 0x2000 ≤ a.toNat ∧ a.toNat < 0x4000

theorem busRead_ppu {a : Addr} (h : ¬ PpuRegister a) (s : State) : (busRead a s).2.ppu = s.ppu := by
  by_cases hr : a.toNat < 0x2000
  · rw [busRead_ram ((ult_ofNat_iff a 0x2000).2 hr)]
  by_cases hc : a = 0x4016#16
  · rw [hc]
    rfl
  · rw [busRead_upper s (by omega) hc]

theorem busWrite_ppu {a : Addr} (h : ¬ PpuRegister a) (v : Byte) (s : State) :
    (busWrite a v s).ppu = s.ppu := by
  by_cases hr : a.toNat < 0x2000
  · rw [busWrite_ram ((ult_ofNat_iff a 0x2000).2 hr)]
  by_cases hd : a = 0x4014#16
  · rw [hd]
    rfl
  by_cases hc : a = 0x4016#16
  · rw [hc]
    rfl
  · rw [busWrite_upper v s (by omega) hd hc]
    split <;> rfl

theorem Ppu.writeScroll_fields (v : Byte) (p : Ppu) : ∃ x t w, p.writeScroll v =
    { p with fineX := x, t := t, w := w } := by
  unfold Ppu.writeScroll
  split <;> exact ⟨_, _, _, rfl⟩

theorem Ppu.writeAddr_fields (b : Byte) (p : Ppu) : ∃ v t w, p.writeAddr b =
    { p with v := v, t := t, w := w } := by
  unfold Ppu.writeAddr
  split <;> exact ⟨_, _, _, rfl⟩

/-- A register write reaches OAM through register 4 alone, the nametables and the palette through register 7
alone, and the frame buffer never (R197, R202). -/
theorem ppuRegWrite_memories (r : Nat) (b : Byte) (s : State) :
    (r ≠ 4 → (ppuRegWrite r b s).ppu.oam = s.ppu.oam) ∧
    (r ≠ 7 → (ppuRegWrite r b s).ppu.nt = s.ppu.nt ∧ (ppuRegWrite r b s).ppu.pal = s.ppu.pal) ∧
    (ppuRegWrite r b s).ppu.frame = s.ppu.frame := by
  unfold ppuRegWrite
  split
  · exact ⟨fun _ => rfl, fun _ => ⟨rfl, rfl⟩, rfl⟩
  · exact ⟨fun _ => rfl, fun _ => ⟨rfl, rfl⟩, rfl⟩
  · exact ⟨fun _ => rfl, fun _ => ⟨rfl, rfl⟩, rfl⟩
  · exact ⟨fun h => absurd rfl h, fun _ => ⟨rfl, rfl⟩, rfl⟩
  · obtain ⟨x, t, w, e⟩ := s.ppu.writeScroll_fields b
    simp only [State.mapPpu_ppu, e, implies_true, and_self]
  · obtain ⟨v, t, w, e⟩ := s.ppu.writeAddr_fields b
    simp only [State.mapPpu_ppu, e, implies_true, and_self]
  · refine ⟨fun _ => ?_, fun h => absurd rfl h, ?_⟩ <;>
      obtain e | e | e := ppuWrite_cases (s.ppu.v &&& 0x3FFF#16) b s <;> rw [e] <;> rfl
  · exact ⟨fun _ => rfl, fun _ => ⟨rfl, rfl⟩, rfl⟩

/-- The bus reaches registers 4 and 7 of the PPU at their mirrors alone (R45). -/
theorem busWrite_memories (a : Addr) (v : Byte) (s : State) :
    (¬ (0x2000 ≤ a.toNat ∧ a.toNat < 0x4000 ∧ a.toNat % 8 = 4) → (busWrite a v s).ppu.oam = s.ppu.oam) ∧
    (¬ (0x2000 ≤ a.toNat ∧ a.toNat < 0x4000 ∧ a.toNat % 8 = 7) →
      (busWrite a v s).ppu.nt = s.ppu.nt ∧ (busWrite a v s).ppu.pal = s.ppu.pal) ∧
    (busWrite a v s).ppu.frame = s.ppu.frame := by
  by_cases h : PpuRegister a
  · obtain ⟨hlo, hhi⟩ := h
    obtain ⟨hoam, hmem, hframe⟩ := ppuRegWrite_memories (a.toNat % 8) v s
    rw [busWrite_ppuRegister v s hlo hhi]
    exact ⟨fun h4 => hoam fun e => h4 ⟨hlo, hhi, e⟩, fun h7 => hmem fun e => h7 ⟨hlo, hhi, e⟩, hframe⟩
  · simp only [busWrite_ppu h, implies_true, and_self]

/-! ### The bytes of RAM and of the cartridge -/

/-- A write to pattern memory changes nothing that a cartridge image answers the CPU. -/
theorem Cartridge.cpuRead_ppuWrite {c : Cartridge} (h : c.kind ≠ .free) (x : Addr) (v : Byte) (a : Addr) :
    (c.ppuWrite x v).cpuRead a = c.cpuRead a := by
  unfold Cartridge.ppuWrite
  split
  · split
    · rfl
    · rfl
  · exact absurd ‹_› h

/-- A write to a cartridge image changes no other byte that it answers. -/
theorem Cartridge.cpuRead_cpuWrite {c : Cartridge} (h : c.kind ≠ .free) {a x : Addr} (hx : a ≠ x)
    (v : Byte) : (c.cpuWrite x v).cpuRead a = c.cpuRead a := by
  have hne : a.toNat ≠ x.toNat := fun e => hx (BitVec.eq_of_toNat_eq e)
  unfold Cartridge.cpuWrite
  split
  · split
    · simp only [Cartridge.cpuRead, ‹c.kind = _›, Memory.get_put_of_ne _ v hne]
    · rfl
  · exact absurd ‹_› h

theorem cpuRead_ppuRegWrite {s : State} (h : s.cart.kind ≠ .free) (r : Nat) (v : Byte) (a : Addr) :
    (ppuRegWrite r v s).cart.cpuRead a = s.cart.cpuRead a := by
  obtain e | e | ⟨f, e, -⟩ | e := ppuRegWrite_cases r v s <;> rw [e]
  · rfl
  · rfl
  · obtain e | e | e := ppuWrite_cases (s.ppu.v &&& 0x3FFF#16) v s <;> rw [State.mapPpu_cart, e]
    · exact Cartridge.cpuRead_ppuWrite h _ v a
    · rfl
    · rfl

/-- A bus write changes no byte of memory but the one at its address. -/
theorem byteAt_busWrite {a x : Addr} {s : State} (v : Byte) (h : ¬ sameByte a x)
    (hc : a.ult 0x2000#16 = true ∨ x.ult 0x2000#16 = true ∨ s.cart.kind ≠ .free) :
    byteAt a (busWrite x v s) = byteAt a s := by
  unfold byteAt
  cases hx : x.ult 0x2000#16 with
  | true =>
    rw [busWrite_ram hx]
    split
    · simp only [sameByte, ‹a.ult _ = true›, hx, and_self, if_true] at h
      exact Memory.get_put_of_ne _ v h
    · rfl
  | false =>
    rw [busWrite_ram_of_not_ult hx]
    split
    · rfl
    · have hk : s.cart.kind ≠ .free := by simpa [‹¬ a.ult _ = true›, hx] using hc
      have hne : a ≠ x := by simpa [sameByte, hx] using h
      obtain ⟨h1, -⟩ | ⟨-, e | e | e | e | e⟩ := busWrite_cases x v s
      · simp [hx] at h1
      all_goals rw [e]
      · exact cpuRead_ppuRegWrite hk _ v a
      · rfl
      · rfl
      · exact Cartridge.cpuRead_cpuWrite hk hne v

/-! ### Stores -/

/-- `t` is `s` after one store at `ea`: there may be reads before it, and changes of registers. -/
def Stores (ea : Addr) (s t : State) : Prop :=
  ∃ u v c, SameMemory s u ∧ (¬ PpuRegister ea → u.ppu = s.ppu) ∧ t = { busWrite ea v u with cpu := c }

/-- The next state of a result, where there is one, is `s` after one store at the operand's address. -/
abbrev StoresAt (o : Operand) (s : State) (r : Result) : Prop := Yields (Stores (resolve o false s).ea s) r

theorem readWordWrap_zeroPage (z : Byte) (s : State) : (readWordWrap (zext16 z) s).2 = s := by
  have hl : (zext16 z).ult 0x2000#16 = true := by revert z; decide
  have hh : (nextOnPage (zext16 z)).ult 0x2000#16 = true := by revert z; decide
  simp only [readWordWrap, busRead_ram hl, busRead_ram hh]

/-- The pointer of an indexed indirect mode lies in RAM, so its reads have no side effect. -/
theorem resolve_state {o : Operand} (h : ∀ a, o ≠ .ind a) (p : Bool) (s : State) :
    (resolve o p s).state = s := by
  cases o with
  | izx z => exact readWordWrap_zeroPage _ s
  | izy z => exact readWordWrap_zeroPage z s
  | ind a => exact absurd rfl (h a)
  | _ => rfl

theorem storesAt_writeClass {o : Operand} (h : ∀ a, o ≠ .ind a) (n : Nat) (g : Addr → Cpu → Byte) (s : State) :
    StoresAt o s (writeClass o n g s) := by
  rw [writeClass_eq, resolve_state h]
  exact yields_next ⟨s, _, _, .refl s, fun _ => rfl, rfl⟩

theorem storesAt_modifyClass {o : Operand} (h : ∀ a, o ≠ .ind a) (n : Nat) (g : Byte → Cpu → Byte)
    (f : Byte → Byte → Cpu → Cpu) (s : State) : StoresAt o s (modifyClass o n g f s) := by
  simp only [modifyClass, resolve_state h]
  exact yields_next ⟨_, _, _, (SameMemory.refl s).busRead _, fun hr => busRead_ppu hr s, rfl⟩

/-! The families of R133, R134, R139-R142, R165-R170, R172 and R185, each over its class. -/

section families

variable {o : Operand} (h : ∀ a, o ≠ .ind a) (n : Nat) (s : State)

include h

theorem storesAt_sax : StoresAt o s (sax o n s) := storesAt_writeClass h n _ s
theorem storesAt_sha : StoresAt o s (sha o n s) := storesAt_writeClass h n _ s
theorem storesAt_incMem : StoresAt o s (incMem o n s) := storesAt_modifyClass h n _ _ s
theorem storesAt_decMem : StoresAt o s (decMem o n s) := storesAt_modifyClass h n _ _ s
theorem storesAt_aslMem : StoresAt o s (aslMem o n s) := storesAt_modifyClass h n _ _ s
theorem storesAt_lsrMem : StoresAt o s (lsrMem o n s) := storesAt_modifyClass h n _ _ s
theorem storesAt_rolMem : StoresAt o s (rolMem o n s) := storesAt_modifyClass h n _ _ s
theorem storesAt_rorMem : StoresAt o s (rorMem o n s) := storesAt_modifyClass h n _ _ s
theorem storesAt_slo : StoresAt o s (slo o n s) := storesAt_modifyClass h n _ _ s
theorem storesAt_rla : StoresAt o s (rla o n s) := storesAt_modifyClass h n _ _ s
theorem storesAt_sre : StoresAt o s (sre o n s) := storesAt_modifyClass h n _ _ s
theorem storesAt_rra : StoresAt o s (rra o n s) := storesAt_modifyClass h n _ _ s
theorem storesAt_dcp : StoresAt o s (dcp o n s) := storesAt_modifyClass h n _ _ s
theorem storesAt_isb : StoresAt o s (isb o n s) := storesAt_modifyClass h n _ _ s

end families

/-- What the meaning inside `unstable` yields, `unstable` yields. -/
theorem yields_unstable {P : State → Prop} {s : State} {r : Result} (op : Byte) (h : Yields P r) :
    Yields P (unstable op s r) := by
  unfold unstable
  split
  · exact yields_refused
  · exact h

theorem sameMemory_readClass (o : Operand) (p : Bool) (n : Nat) (f : Byte → Cpu → Cpu) (s : State) :
    Yields (SameMemory s) (readClass o p n f s) :=
  yields_next (((((SameMemory.refl s).resolve o p).operandByte o).mapCpu _).busyFor _)

theorem sameMemory_ignoreRead (o : Operand) (p : Bool) (n : Nat) (s : State) :
    Yields (SameMemory s) (ignoreRead o p n s) := sameMemory_readClass o p n _ s

theorem sameMemory_branchIf (cond : Cpu → Bool) (d : Byte) (s : State) :
    Yields (SameMemory s) (branchIf cond d s) := by
  unfold branchIf
  extract_lets target
  split
  · exact yields_next (((SameMemory.refl s).setPc _).busyFor _)
  · exact yields_next ((SameMemory.refl s).busyFor _)

/-! ### All instructions -/

/-- What an instruction may do to memory, by its row: one store at its operand's address, pushes, or nothing. -/
theorem exec_memory (i : Instr) (s : State) :
    (storesAtEa i = true ∧ ∃ o, operandOf i = some o ∧ StoresAt o s (exec i s)) ∨
    (storesAtEa i = false ∧ (0 < pushCount i ∨ Yields (SameMemory s) (exec i s))) := by
  have same := SameMemory.refl s
  cases i <;> unfold exec
  case staIzx | staZp | staAbs | staIzy | staZpx | staAby | staAbx | stxZp | stxAbs | stxZpy
    | styZp | styAbs | styZpx =>
    exact .inl ⟨rfl, _, by simp [operandOf, Instr.row], storesAt_writeClass (by nofun) _ _ s⟩
  case saxIzx | saxZp | saxAbs | saxZpy =>
    exact .inl ⟨rfl, _, by simp [operandOf, Instr.row], storesAt_sax (by nofun) _ s⟩
  case incZp | incAbs | incZpx | incAbx =>
    exact .inl ⟨rfl, _, by simp [operandOf, Instr.row], storesAt_incMem (by nofun) _ s⟩
  case decZp | decAbs | decZpx | decAbx =>
    exact .inl ⟨rfl, _, by simp [operandOf, Instr.row], storesAt_decMem (by nofun) _ s⟩
  case aslZp | aslAbs | aslZpx | aslAbx =>
    exact .inl ⟨rfl, _, by simp [operandOf, Instr.row], storesAt_aslMem (by nofun) _ s⟩
  case lsrZp | lsrAbs | lsrZpx | lsrAbx =>
    exact .inl ⟨rfl, _, by simp [operandOf, Instr.row], storesAt_lsrMem (by nofun) _ s⟩
  case rolZp | rolAbs | rolZpx | rolAbx =>
    exact .inl ⟨rfl, _, by simp [operandOf, Instr.row], storesAt_rolMem (by nofun) _ s⟩
  case rorZp | rorAbs | rorZpx | rorAbx =>
    exact .inl ⟨rfl, _, by simp [operandOf, Instr.row], storesAt_rorMem (by nofun) _ s⟩
  case sloIzx | sloZp | sloAbs | sloIzy | sloZpx | sloAby | sloAbx =>
    exact .inl ⟨rfl, _, by simp [operandOf, Instr.row], storesAt_slo (by nofun) _ s⟩
  case rlaIzx | rlaZp | rlaAbs | rlaIzy | rlaZpx | rlaAby | rlaAbx =>
    exact .inl ⟨rfl, _, by simp [operandOf, Instr.row], storesAt_rla (by nofun) _ s⟩
  case sreIzx | sreZp | sreAbs | sreIzy | sreZpx | sreAby | sreAbx =>
    exact .inl ⟨rfl, _, by simp [operandOf, Instr.row], storesAt_sre (by nofun) _ s⟩
  case rraIzx | rraZp | rraAbs | rraIzy | rraZpx | rraAby | rraAbx =>
    exact .inl ⟨rfl, _, by simp [operandOf, Instr.row], storesAt_rra (by nofun) _ s⟩
  case dcpIzx | dcpZp | dcpAbs | dcpIzy | dcpZpx | dcpAby | dcpAbx =>
    exact .inl ⟨rfl, _, by simp [operandOf, Instr.row], storesAt_dcp (by nofun) _ s⟩
  case isbIzx | isbZp | isbAbs | isbIzy | isbZpx | isbAby | isbAbx =>
    exact .inl ⟨rfl, _, by simp [operandOf, Instr.row], storesAt_isb (by nofun) _ s⟩
  case shxAby | shyAbx =>
    exact .inl ⟨rfl, _, by simp [operandOf, Instr.row],
      yields_unstable _ (storesAt_writeClass (by nofun) _ _ s)⟩
  case shaIzy | shaAby =>
    exact .inl ⟨rfl, _, by simp [operandOf, Instr.row], yields_unstable _ (storesAt_sha (by nofun) _ s)⟩
  case tasAby a =>
    refine .inl ⟨rfl, .aby a, by simp [operandOf, Instr.row], yields_unstable _ ?_⟩
    exact yields_next ⟨_, _, _, same.mapCpu _, fun _ => rfl, rfl⟩
  case pha | php | jsrAbs | brk => exact .inr ⟨rfl, .inl (of_decide_eq_true rfl)⟩
  case ldaIzx | ldaZp | ldaImm | ldaAbs | ldaIzy | ldaZpx | ldaAby | ldaAbx
    | ldxImm | ldxZp | ldxAbs | ldxZpy | ldxAby | ldyImm | ldyZp | ldyAbs | ldyZpx | ldyAbx
    | laxIzx | laxZp | laxAbs | laxIzy | laxZpy | laxAby
    | adcIzx | adcZp | adcImm | adcAbs | adcIzy | adcZpx | adcAby | adcAbx
    | sbcIzx | sbcZp | sbcImm | sbcAbs | sbcIzy | sbcZpx | sbcAby | sbcAbx | sbcImmEB
    | andIzx | andZp | andImm | andAbs | andIzy | andZpx | andAby | andAbx
    | oraIzx | oraZp | oraImm | oraAbs | oraIzy | oraZpx | oraAby | oraAbx
    | eorIzx | eorZp | eorImm | eorAbs | eorIzy | eorZpx | eorAby | eorAbx
    | cmpIzx | cmpZp | cmpImm | cmpAbs | cmpIzy | cmpZpx | cmpAby | cmpAbx
    | cpxImm | cpxZp | cpxAbs | cpyImm | cpyZp | cpyAbs | bitZp | bitAbs
    | aacImm0B | aacImm2B | asrImm | arrImm | axsImm =>
    exact .inr ⟨rfl, .inr (sameMemory_readClass _ _ _ _ s)⟩
  case nopImm80 | nopImm82 | nopImm89 | nopImmC2 | nopImmE2 | nopZp04 | nopZp44 | nopZp64
    | nopZpx14 | nopZpx34 | nopZpx54 | nopZpx74 | nopZpxD4 | nopZpxF4
    | nopAbs | nopAbx1C | nopAbx3C | nopAbx5C | nopAbx7C | nopAbxDC | nopAbxFC =>
    exact .inr ⟨rfl, .inr (sameMemory_ignoreRead _ _ _ s)⟩
  case aneImm | lxaImm | lasAby =>
    exact .inr ⟨rfl, .inr (yields_unstable _ (sameMemory_readClass _ _ _ _ s))⟩
  case bpl | bmi | bvc | bvs | bcc | bcs | bne | beq => exact .inr ⟨rfl, .inr (sameMemory_branchIf _ _ s)⟩
  case jmpAbs | jmpInd => exact .inr ⟨rfl, .inr (yields_next (((same.resolve _ _).setPc _).busyFor _))⟩
  case pla | plp => exact .inr ⟨rfl, .inr (yields_next ((same.pull.mapCpu _).busyFor _))⟩
  case rts => exact .inr ⟨rfl, .inr (yields_next ((same.pullAddr.setPc _).busyFor _))⟩
  case rti => exact .inr ⟨rfl, .inr (yields_next (same.returnFromInterrupt.busyFor _))⟩
  case tax | tay | txa | tya | tsx | txs | inx | iny | dex | dey | aslAcc | lsrAcc | rolAcc | rorAcc
    | clc | sec | cli | sei | clv | cld | sed | kil02 | kil12 | kil22 | kil32 | kil42 | kil52 | kil62 | kil72
    | kil92 | kilB2 | kilD2 | kilF2 => exact .inr ⟨rfl, .inr (yields_next ((same.mapCpu _).busyFor _))⟩
  case nop | nop1A | nop3A | nop5A | nop7A | nopDA | nopFA =>
    exact .inr ⟨rfl, .inr (yields_next (same.busyFor _))⟩

/-- Settles O18: by `exec_memory` an instruction that neither stores nor pushes only reads. -/
theorem storelessFormsKeepMemory : Obligations.StorelessFormsKeepMemory := by
  intro i s t hstore hpush ht
  obtain ⟨h, -⟩ | ⟨-, h | h⟩ := exec_memory i s
  · simp [hstore] at h
  · omega
  · have hm := h t ht
    exact ⟨hm.byteAt, fun n => ⟨by rw [hm.oam], by rw [hm.nt], by rw [hm.pal], hm.frameByte n⟩,
      hm.bus, hm.cart, hm.launch, (exec_runs i s t ht).cycl⟩

/-- Settles O19: by `exec_memory` there is one bus write, at the operand's effective address; what it reaches
follows from the address alone. -/
theorem storesTouchOnlyTheirByte : Obligations.StoresTouchOnlyTheirByte := by
  rintro i o s t hstore ho ht _ rfl
  obtain ⟨-, o', ho', h⟩ | ⟨h, -⟩ := exec_memory i s
  · obtain rfl : o' = o := Option.some.inj (ho'.symm.trans ho)
    obtain ⟨u, v, c, hm, hppu, rfl⟩ := h t ht
    obtain ⟨hoam, hmem, hframe⟩ := busWrite_memories (resolve o' false s).ea v u
    refine ⟨fun a ha hc => ?_, fun h4 n => ?_, fun h7 n => ?_, fun n => ?_, fun hr => ?_⟩
    · exact (byteAt_busWrite v ha (hm.cart ▸ hc)).trans (hm.byteAt a)
    · simp only [hoam h4, hm.oam]
    · simp only [hmem h7, hm.nt, hm.pal, and_self]
    · simp only [Ppu.frameByte, hframe, hm.frame]
    · exact (busWrite_ppu hr v u).trans (hppu hr)
  · simp [hstore] at h

end Sys2Proof.Machine

/-! SUPPORT. The form statements by the access classes (R102): a list of forms reads, writes or changes
registers as stated when the meaning of each form is its class. The register effects of the loads, with Z and N
as the claims write them (R13, R103). -/

namespace Sys2Proof.Machine

open Sys2Proof.Claims

/-! ### Register effects in the claims' terms -/

theorem putBit_putBit_eq_zn (v st : Byte) : putBit 7 (v.getLsbD 7) (putBit 1 (v == 0#8) st) = zn v st := by
  apply BitVec.eq_of_getLsbD_eq
  intro i hi
  rw [getLsbD_putBit _ _ _ _ hi, getLsbD_putBit _ _ _ _ hi]
  by_cases hv : v = 0#8
  · subst hv
    interval_cases i <;> simp [zn]
  · interval_cases i <;> simp [zn, hv]

theorem Cpu.setZN_eq (v : Byte) (c : Cpu) : c.setZN v = { c with stat := zn v c.stat } :=
  congrArg (fun st => { c with stat := st }) (putBit_putBit_eq_zn v c.stat)

theorem Cpu.loadA_eq (v : Byte) (c : Cpu) : c.loadA v = { c with a := v, stat := zn v c.stat } :=
  setZN_eq v _

theorem Cpu.loadX_eq (v : Byte) (c : Cpu) : c.loadX v = { c with x := v, stat := zn v c.stat } :=
  setZN_eq v _

theorem Cpu.loadY_eq (v : Byte) (c : Cpu) : c.loadY v = { c with y := v, stat := zn v c.stat } :=
  setZN_eq v _

theorem Cpu.loadAX_eq (v : Byte) (c : Cpu) : c.loadAX v = { c with a := v, x := v, stat := zn v c.stat } :=
  loadA_eq v _

/-! ### Forms and their classes -/

section classes

variable {forms : Byte → Addr → List Form} {s : State}

theorem readsAs_of_readClass {f effect : Byte → Cpu → Cpu}
    (h : ∀ b w, ∀ form ∈ forms b w, form.encoded ∧
      exec form.instr s = readClass form.operand form.sensitive form.cycles f s)
    (he : ∀ m c, f m c = effect m c) (hc : ∀ m c, (f m c).cycl = c.cycl) : ReadsAs forms effect s := by
  intro b w form hform
  obtain ⟨henc, hexec⟩ := h b w form hform
  rw [hexec, readClass_eq _ _ _ _ _ fun m => hc m _, he]
  exact ⟨henc, rfl⟩

theorem writesAs_of_writeClass {value : Addr → Cpu → Byte}
    (h : ∀ b w, ∀ form ∈ forms b w, form.encoded ∧
      exec form.instr s = writeClass form.operand form.cycles value s) : WritesAs forms value s := by
  intro b w form hform
  obtain ⟨henc, hexec⟩ := h b w form hform
  exact ⟨henc, hexec.trans (writeClass_eq _ _ _ _)⟩

theorem changesAs_of_impliedClass {op : Byte} {i : Instr} {n : Nat} {f effect : Cpu → Cpu}
    (henc : encode i = [op]) (hexec : exec i s = impliedClass n f s) (he : f s.cpu = effect s.cpu)
    (hc : (f s.cpu).cycl = s.cpu.cycl) : ChangesAs op i n effect s :=
  ⟨henc, by rw [hexec, impliedClass_eq _ _ _ hc, he]⟩

end classes

/-- Settles O1: form by form the meaning is the Read class with the register's load. -/
theorem loadForms : Obligations.LoadForms := by
  refine fun s => ⟨readsAs_of_readClass ?_ Cpu.loadA_eq fun _ _ => rfl,
    readsAs_of_readClass ?_ Cpu.loadX_eq fun _ _ => rfl, readsAs_of_readClass ?_ Cpu.loadY_eq fun _ _ => rfl,
    readsAs_of_readClass ?_ Cpu.loadAX_eq fun _ _ => rfl⟩
  all_goals
    intro b w form hform
    fin_cases hform <;> exact ⟨rfl, rfl⟩

/-- Settles O2: form by form the meaning is the Write class with the register's value. -/
theorem storeForms : Obligations.StoreForms := by
  refine fun s => ⟨writesAs_of_writeClass ?_, writesAs_of_writeClass ?_, writesAs_of_writeClass ?_,
    writesAs_of_writeClass ?_⟩
  all_goals
    intro b w form hform
    fin_cases hform <;> exact ⟨rfl, rfl⟩

/-- Settles O3: each transfer and count is a load of A, X or Y, but for TXS, which sets no flag. -/
theorem transferAndCountForms : Obligations.TransferAndCountForms := by
  intro s
  refine ⟨?tax, ?tay, ?txa, ?tya, ?tsx, ?txs, ?inx, ?iny, ?dex, ?dey⟩
  case tax | tsx | inx | dex => exact changesAs_of_impliedClass rfl rfl (Cpu.loadX_eq _ _) rfl
  case tay | iny | dey => exact changesAs_of_impliedClass rfl rfl (Cpu.loadY_eq _ _) rfl
  case txa | tya => exact changesAs_of_impliedClass rfl rfl (Cpu.loadA_eq _ _) rfl
  case txs => exact changesAs_of_impliedClass rfl rfl rfl rfl

/-! ### The stack -/

theorem stackCell_eq (sp : Byte) : stackCell sp = 256 + sp.toNat := by
  revert sp; decide

theorem push_eq_pushedOn (v : Byte) (s : State) : push v s = { s with
    bus := { s.bus with ram := pushedOn s.bus.ram s.cpu.sp [v] }
    cpu := { s.cpu with sp := s.cpu.sp - 1#8 } } := by
  rw [push_eq, ← stackCell_eq]
  rfl

theorem pull_eq_stackCell (s : State) : pull s = (s.bus.ram.get (stackCell (s.cpu.sp + 1#8)),
    { s with cpu := { s.cpu with sp := s.cpu.sp + 1#8 } }) := by
  rw [pull_eq, ← stackCell_eq]

/-- Settles O4: a push or a pull at the cell of the stack pointer, and for PLA a load of A. -/
theorem stackForms : Obligations.StackForms := by
  intro s
  refine ⟨rfl, rfl, rfl, rfl, ?pha, ?php, ?pla, ?plp⟩
  case pha =>
    change execPha s = _
    simp only [execPha, push_eq_pushedOn, State.busyFor, State.mapCpu]
  case php =>
    change execPhp s = _
    simp only [execPhp, push_eq_pushedOn, State.busyFor, State.mapCpu, Cpu.pushedByBreak]
  case pla =>
    change execPla s = _
    simp only [execPla, pull_eq_stackCell, State.busyFor, State.mapCpu, Cpu.loadA_eq]
  case plp =>
    change execPlp s = _
    simp only [execPlp, pull_eq_stackCell, State.busyFor, State.mapCpu, Cpu.loadStat, statFromPulled]

end Sys2Proof.Machine

/-! SUPPORT. The register effects of the arithmetic, logic, compare, count and shift instructions
(42_arith_logic.md) in the claims' terms: STAT written flag by flag as masks of one byte, subtraction as
addition of the complement, and the Read-modify-write class by its forms. -/

namespace Sys2Proof.Machine

open Sys2Proof.Claims

/-! ### Flags as masks of STAT -/

theorem putBit_eq_mask (n : Nat) (b : Bool) (st : Byte) :
    putBit n b st = (st &&& ~~~(1#8 <<< n)) ||| (if b then 1#8 <<< n else 0#8) := by
  cases b with
  | false => simp [putBit]
  | true =>
    ext i hi
    cases h : (1#8 <<< n)[i] <;> simp [putBit, h]

theorem putBit_zero_eq_withC (b : Bool) (st : Byte) : putBit 0 b st = withC b st := putBit_eq_mask 0 b st

theorem putBit_six_eq_withV (b : Bool) (st : Byte) : putBit 6 b st = withV b st := putBit_eq_mask 6 b st

/-- Writes of two different flags may change places. -/
theorem putBit_comm {n m : Nat} (h : n ≠ m) (p q : Bool) (st : Byte) :
    putBit n p (putBit m q st) = putBit m q (putBit n p st) := by
  ext i hi
  obtain rfl | hn := eq_or_ne i n
  · simp [h]
  · simp [hn]

theorem zn_putBit {n : Nat} (h1 : n ≠ 1) (h7 : n ≠ 7) (b : Bool) (v st : Byte) :
    zn v (putBit n b st) = putBit n b (zn v st) := by
  simp only [← putBit_putBit_eq_zn, putBit_comm h1, putBit_comm h7]

theorem zn_withC (b : Bool) (v st : Byte) : zn v (withC b st) = withC b (zn v st) := by
  simpa only [putBit_zero_eq_withC] using zn_putBit (n := 0) (by decide) (by decide) b v st

theorem zn_withV (b : Bool) (v st : Byte) : zn v (withV b st) = withV b (zn v st) := by
  simpa only [putBit_six_eq_withV] using zn_putBit (n := 6) (by decide) (by decide) b v st

theorem withV_withC (v c : Bool) (st : Byte) : withV v (withC c st) = withC c (withV v st) := by
  simpa only [putBit_six_eq_withV, putBit_zero_eq_withC] using
    putBit_comm (n := 6) (m := 0) (by decide) v c st

theorem Cpu.setC_eq (b : Bool) (c : Cpu) : c.setC b = { c with stat := withC b c.stat } :=
  congrArg (fun st => { c with stat := st }) (putBit_zero_eq_withC b c.stat)

theorem Cpu.setV_eq (b : Bool) (c : Cpu) : c.setV b = { c with stat := withV b c.stat } :=
  congrArg (fun st => { c with stat := st }) (putBit_six_eq_withV b c.stat)

/-! ### The adder (R120, R121) -/

theorem Cpu.c_toNat (c : Cpu) : c.c.toNat = carryIn c := by
  unfold Cpu.c carryIn
  cases c.stat.getLsbD 0 <;> rfl

theorem Cpu.addWithCarry_eq (m : Byte) (c : Cpu) : c.addWithCarry m = added m (carryIn c) c := by
  simp only [addWithCarry, added, setZN_eq, setV_eq, setC_eq, c_toNat, zn_withV, zn_withC, withV_withC]

theorem carryIn_le_one (c : Cpu) : carryIn c ≤ 1 := by
  unfold carryIn
  split <;> decide

theorem xor_ones_eq_not (m : Byte) : m ^^^ 0xFF#8 = ~~~m := BitVec.xor_allOnes

/-- Two bytes have the same sign when bit 7 of their exclusive or is 0. -/
theorem xor_and_signBit_eq_zero (x y : Byte) : ((x ^^^ y) &&& 0x80#8 == 0#8) = (x.msb == y.msb) := by
  have hbit : ((x ^^^ y) &&& 0x80#8) = if (x ^^^ y).msb then 0x80#8 else 0x00#8 :=
    BitVec.and_twoPow (x ^^^ y) 7
  rw [hbit, BitVec.msb_xor]
  cases x.msb <;> cases y.msb <;> rfl

/-- The overflow of the adder on the complement of `m`, by the signs of the operands of the subtraction. -/
theorem overflow_complement (a m r : Byte) :
    ((a ^^^ (m ^^^ 0xFF#8)) &&& 0x80#8 == 0#8 && (a ^^^ r) &&& 0x80#8 != 0#8) =
      (a.msb != m.msb && r.msb != a.msb) := by
  rw [bne, xor_and_signBit_eq_zero, xor_and_signBit_eq_zero, xor_ones_eq_not, BitVec.msb_not]
  cases a.msb <;> cases m.msb <;> cases r.msb <;> rfl

/-- Adding the complement of `m` and the carry is subtracting `m` and the borrow: the two differ by 256. -/
theorem added_complement_eq_subtracted (m : Byte) {carry : Nat} (h : carry ≤ 1) (c : Cpu) :
    added (m ^^^ 0xFF#8) carry c = subtracted m (1 - carry) c := by
  have hm := m.isLt
  have hsum : ((c.a.toNat + (m ^^^ 0xFF#8).toNat + carry : Nat) : Int) =
      c.a.toNat - m.toNat - (1 - carry : Nat) + 256 := by
    rw [xor_ones_eq_not, BitVec.toNat_not]
    omega
  have hres : BitVec.ofNat 8 (c.a.toNat + (m ^^^ 0xFF#8).toNat + carry) =
      BitVec.ofInt 8 (c.a.toNat - m.toNat - (1 - carry : Nat)) := by
    rw [← BitVec.ofInt_natCast, hsum, BitVec.ofInt_add]
    exact BitVec.add_zero _
  have hcarry : 255 < c.a.toNat + (m ^^^ 0xFF#8).toNat + carry ↔
      0 ≤ (c.a.toNat : Int) - m.toNat - (1 - carry : Nat) := by omega
  simp only [added, subtracted, hres, hcarry, overflow_complement]

theorem Cpu.subWithBorrow_eq (m : Byte) (c : Cpu) : c.subWithBorrow m = subtracted m (1 - carryIn c) c :=
  (addWithCarry_eq _ c).trans (added_complement_eq_subtracted m (carryIn_le_one c) c)

/-- Settles O5: form by form the meaning is the Read class with the one adder, and SBC adds the complement. -/
theorem addSubtractForms : Obligations.AddSubtractForms := by
  refine fun s => ⟨readsAs_of_readClass ?_ Cpu.addWithCarry_eq fun _ _ => rfl,
    readsAs_of_readClass ?_ Cpu.subWithBorrow_eq fun _ _ => rfl⟩
  all_goals
    intro b w form hform
    fin_cases hform <;> exact ⟨rfl, rfl⟩

/-! ### Logic and compares -/

theorem putBits_eq_bitTestMask (a m st : Byte) :
    putBit 6 (m.getLsbD 6) (putBit 7 (m.getLsbD 7) (putBit 1 (a &&& m == 0#8) st)) =
      (st &&& 0x3D#8) ||| (if a &&& m = 0#8 then 0x02#8 else 0x00#8) ||| (m &&& 0xC0#8) := by
  apply BitVec.eq_of_getLsbD_eq
  intro i hi
  rw [getLsbD_putBit _ _ _ _ hi, getLsbD_putBit _ _ _ _ hi, getLsbD_putBit _ _ _ _ hi]
  by_cases hz : a &&& m = 0#8
  · interval_cases i <;> simp [hz]
  · interval_cases i <;> simp [hz]

theorem Cpu.bitTest_eq (m : Byte) (c : Cpu) : c.bitTest m = { c with
    stat := (c.stat &&& 0x3D#8) ||| (if c.a &&& m = 0#8 then 0x02#8 else 0x00#8) ||| (m &&& 0xC0#8) } :=
  congrArg (fun st => { c with stat := st }) (putBits_eq_bitTestMask c.a m c.stat)

/-- Settles O6: form by form the meaning is the Read class, with a load of A or the flags of BIT. -/
theorem logicForms : Obligations.LogicForms := by
  refine fun s => ⟨readsAs_of_readClass ?_ (fun m c => Cpu.loadA_eq (c.a &&& m) c) fun _ _ => rfl,
    readsAs_of_readClass ?_ (fun m c => Cpu.loadA_eq (c.a ||| m) c) fun _ _ => rfl,
    readsAs_of_readClass ?_ (fun m c => Cpu.loadA_eq (c.a ^^^ m) c) fun _ _ => rfl,
    readsAs_of_readClass ?_ Cpu.bitTest_eq fun _ _ => rfl⟩
  all_goals
    intro b w form hform
    fin_cases hform <;> exact ⟨rfl, rfl⟩

theorem Cpu.compare_eq (reg m : Byte) (c : Cpu) : c.compare reg m = compared reg m c := by
  simp only [compare, compared, setZN_eq, setC_eq, zn_withC, BitVec.le_def]

/-- Settles O7: form by form the meaning is the Read class with the compare of the form's register. -/
theorem compareForms : Obligations.CompareForms := by
  refine fun s => ⟨readsAs_of_readClass ?_ (fun m c => Cpu.compare_eq c.a m c) fun _ _ => rfl,
    readsAs_of_readClass ?_ (fun m c => Cpu.compare_eq c.x m c) fun _ _ => rfl,
    readsAs_of_readClass ?_ (fun m c => Cpu.compare_eq c.y m c) fun _ _ => rfl⟩
  all_goals
    intro b w form hform
    fin_cases hform <;> exact ⟨rfl, rfl⟩

/-! ### Counts, shifts and rotates -/

theorem modifiesAs_of_modifyClass {forms : Byte → Addr → List Form} {s : State}
    {g value : Byte → Cpu → Byte} {f : Byte → Byte → Cpu → Cpu} {effect : Byte → Cpu → Cpu}
    (h : ∀ b w, ∀ form ∈ forms b w, form.encoded ∧
      exec form.instr s = modifyClass form.operand form.cycles g f s)
    (hg : ∀ m c, g m c = value m c) (he : ∀ m c, f m (value m c) c = effect m c)
    (hc : ∀ m r c, (f m r c).cycl = c.cycl) : ModifiesAs forms value effect s := by
  intro b w form hform
  obtain ⟨henc, hexec⟩ := h b w form hform
  rw [hexec, modifyClass_eq _ _ _ _ _ fun m r => hc m r _, hg, he]
  exact ⟨henc, rfl⟩

theorem Cpu.shifted_eq (out : Bool) (res : Byte) (c : Cpu) :
    c.shifted out res = { c with stat := shiftedStat out res c.stat } := by
  simp only [shifted, shiftedStat, setZN_eq, setC_eq, zn_withC]

theorem Cpu.shiftA_eq (out : Bool) (res : Byte) (c : Cpu) :
    c.shiftA out res = { c with a := res, stat := shiftedStat out res c.stat } := shifted_eq out res _

theorem rotateLeft_eq_rolled (m : Byte) (c : Cpu) : rotateLeft m c.c = rolled m c := rfl

theorem rotateRight_eq_rored (m : Byte) (c : Cpu) : rotateRight m c.c = rored m c := by
  unfold rotateRight rored Cpu.c
  cases c.stat.getLsbD 0 <;> rfl

/-- Settles O8: form by form the meaning is the Read-modify-write class with the count, shift or rotate; the
accumulator forms are the same on A. -/
theorem countAndShiftForms : Obligations.CountAndShiftForms := by
  intro s
  refine ⟨?inc, ?dec, ?asl, ?lsr, ?rol, ?ror, ?aslAcc, ?lsrAcc, ?rolAcc, ?rorAcc⟩
  case inc | dec =>
    refine modifiesAs_of_modifyClass ?_ (fun _ _ => rfl) (fun _ => Cpu.setZN_eq _) fun _ _ _ => rfl
    intro b w form hform
    fin_cases hform <;> exact ⟨rfl, rfl⟩
  case asl | lsr =>
    refine modifiesAs_of_modifyClass ?_ (fun _ _ => rfl) (fun _ => Cpu.shifted_eq _ _) fun _ _ _ => rfl
    intro b w form hform
    fin_cases hform <;> exact ⟨rfl, rfl⟩
  case rol =>
    refine modifiesAs_of_modifyClass ?_ rotateLeft_eq_rolled (fun _ _ => Cpu.shifted_eq _ _ _) fun _ _ _ => rfl
    intro b w form hform
    fin_cases hform <;> exact ⟨rfl, rfl⟩
  case ror =>
    refine modifiesAs_of_modifyClass ?_ rotateRight_eq_rored (fun _ _ => Cpu.shifted_eq _ _ _) fun _ _ _ => rfl
    intro b w form hform
    fin_cases hform <;> exact ⟨rfl, rfl⟩
  case aslAcc | lsrAcc | rolAcc => exact changesAs_of_impliedClass rfl rfl (Cpu.shiftA_eq _ _ _) rfl
  case rorAcc =>
    simp only [← rotateRight_eq_rored]
    exact changesAs_of_impliedClass rfl rfl (Cpu.shiftA_eq _ _ _) rfl

end Sys2Proof.Machine

/-! SUPPORT. Branches, jumps, subroutines, entries and returns, flags and NOPs (43_control_flags.md, R178-R181):
pushes and pulls as the bytes at the stack's cells (R21), and that a pull finds the byte a push left. -/

namespace Sys2Proof.Machine

open Sys2Proof.Claims

/-! ### Flag instructions and NOPs -/

/-- Settles O12: each flag instruction is a change of registers, and its setter is the mask of its bit. -/
theorem flagForms : Obligations.FlagForms := by
  intro s
  refine ⟨?clc, ?sec, ?cli, ?sei, ?clv, ?cld, ?sed⟩
  case clc | sec | cli | sei | clv | cld | sed => exact changesAs_of_impliedClass rfl rfl rfl rfl

/-- Settles O13: a NOP without operand is a change of registers that changes none, SKB and IGN are the Read
class, and KIL is a change of the KIL bookkeeping. -/
theorem nopAndKilForms : Obligations.NopAndKilForms := by
  refine fun s => ⟨fun f hf => ?nop, readsAs_of_readClass ?skb (fun _ _ => rfl) fun _ _ => rfl,
    readsAs_of_readClass ?ign (fun _ _ => rfl) fun _ _ => rfl, fun f hf => ?kil⟩
  case nop => fin_cases hf <;> exact changesAs_of_impliedClass (f := id) rfl rfl rfl rfl
  case skb | ign =>
    intro b w form hform
    fin_cases hform <;> exact ⟨rfl, rfl⟩
  case kil => fin_cases hf <;> exact ⟨rfl, rfl⟩

/-! ### Branches (R143) -/

theorem branchIf_taken {cond : Cpu → Bool} {s : State} (o : Byte) (h : cond s.cpu = true) :
    branchIf cond o s = .next { s with cpu := { s.cpu with
      pc := branchTarget s.cpu.pc o
      next := s.cpu.cycl + (if hi s.cpu.pc = hi (branchTarget s.cpu.pc o) then 3 else 4) } } := by
  have htarget : s.cpu.pc + sext16 o = branchTarget s.cpu.pc o := rfl
  simp only [branchIf, resolve, h, if_true, htarget, State.setPc, State.busyFor, State.mapCpu]
  split <;> rfl

theorem branchIf_not_taken {cond : Cpu → Bool} {s : State} (o : Byte) (h : cond s.cpu = false) :
    branchIf cond o s = .next { s with cpu := { s.cpu with next := s.cpu.cycl + 2 } } := by
  simp only [branchIf, h, Bool.false_eq_true, if_false, State.busyFor, State.mapCpu]

/-- Each branch asks whether its flag has its value (R144-R151). -/
theorem exec_branch {f : Byte × (Byte → Instr) × Nat × Bool} (hf : f ∈ branches) (o : Byte) (s : State) :
    encode (f.2.1 o) = [f.1, o] ∧
      exec (f.2.1 o) s = branchIf (fun c => c.stat.getLsbD f.2.2.1 == f.2.2.2) o s := by
  fin_cases hf <;> refine ⟨rfl, ?_⟩ <;> simp only [beq_true, beq_false] <;> rfl

/-- Settles O9: the two outcomes of `branchIf`, by each branch's flag. -/
theorem branchForms : Obligations.BranchForms := by
  intro s o f hf
  obtain ⟨henc, hexec⟩ := exec_branch hf o s
  exact ⟨henc, fun h => hexec.trans (branchIf_taken o (beq_iff_eq.2 h)),
    fun h => hexec.trans (branchIf_not_taken o (beq_eq_false_iff_ne.2 h))⟩

/-! ### Words on the stack -/

theorem pushAddr_eq_pushedOn (a : Addr) (s : State) : pushAddr a s = { s with
    bus := { s.bus with ram := pushedOn s.bus.ram s.cpu.sp [hi a, lo a] }
    cpu := { s.cpu with sp := s.cpu.sp - 2#8 } } := by
  simp only [pushAddr, push_eq_pushedOn, pushedOn, BitVec.sub_sub]
  rfl

theorem pullAddr_eq_stackCell (s : State) : pullAddr s =
    (mkAddr (s.bus.ram.get (stackCell (s.cpu.sp + 2#8))) (s.bus.ram.get (stackCell (s.cpu.sp + 1#8))),
      { s with cpu := { s.cpu with sp := s.cpu.sp + 2#8 } }) := by
  simp only [pullAddr, pull_eq_stackCell, BitVec.add_assoc]
  rfl

/-! ### Jumps (R152-R154) -/

/-- The high byte of one address and the low byte of another, as masks. -/
theorem mkAddr_hi_lo_eq_masks (a b : Addr) :
    mkAddr (hi a) (lo b) = (a &&& 0xFF00#16) ||| (b &&& 0x00FF#16) := by
  apply BitVec.eq_of_getLsbD_eq
  intro i hlt
  rw [mkAddr, BitVec.getLsbD_append]
  interval_cases i <;> simp [hi, lo]

theorem lo_add_one (a : Addr) : lo (a + 1#16) = lo a + 1#8 := BitVec.setWidth_add a 1#16 (by decide)

theorem nextOnPage_eq_masks (a : Addr) :
    nextOnPage a = (a &&& 0xFF00#16) ||| ((a + 1#16) &&& 0x00FF#16) := by
  rw [nextOnPage, ← lo_add_one, mkAddr_hi_lo_eq_masks]

theorem exec_jmpInd (w : Addr) (s : State) : exec (.jmpInd w) s = .next
    { (busRead (nextOnPage w) (busRead w s).2).2 with cpu := { s.cpu with
      pc := mkAddr (busRead (nextOnPage w) (busRead w s).2).1 (busRead w s).1
      next := s.cpu.cycl + 5 } } := by
  change execJmpInd w s = _
  simp only [execJmpInd, jump, resolve, readWordWrap, State.setPc, State.busyFor, State.mapCpu, busRead_cpu]

theorem exec_jsrAbs (w : Addr) (s : State) : exec (.jsrAbs w) s = .next { s with
    bus := { s.bus with
      ram := pushedOn s.bus.ram s.cpu.sp [hi (s.cpu.pc - 1#16), lo (s.cpu.pc - 1#16)] }
    cpu := { s.cpu with pc := w, sp := s.cpu.sp - 2#8, next := s.cpu.cycl + 6 } } := by
  change execJsrAbs w s = _
  simp only [execJsrAbs, pushAddr_eq_pushedOn, State.setPc, State.busyFor, State.mapCpu]

theorem exec_rts (s : State) : exec .rts s = .next { s with cpu := { s.cpu with
    pc := mkAddr (s.bus.ram.get (stackCell (s.cpu.sp + 2#8)))
      (s.bus.ram.get (stackCell (s.cpu.sp + 1#8))) + 1#16
    sp := s.cpu.sp + 2#8
    next := s.cpu.cycl + 6 } } := by
  change execRts s = _
  simp only [execRts, pullAddr_eq_stackCell, State.setPc, State.busyFor, State.mapCpu]

/-- Settles O10: JMP loads the resolved address, JSR pushes a word and RTS pulls one. -/
theorem jumpForms : Obligations.JumpForms := by
  intro s w
  refine ⟨rfl, rfl, rfl, rfl, rfl, ?_, exec_jsrAbs w s, exec_rts s⟩
  rw [← nextOnPage_eq_masks]
  exact exec_jmpInd w s

/-! ### Entries and RTI (R155, R156, R238) -/

theorem Cpu.setI_true_eq (c : Cpu) : c.setI true = { c with stat := c.stat ||| 0x04#8 } := rfl

/-- Every entry pushes the return address and the status, sets I, and loads PC from its vector. -/
theorem enterVia_eq_pushedOn (ret : Addr) (status : Byte) (k : Interrupt) (s : State) :
    enterVia ret status k.vector s = { s with
      bus := { s.bus with ram := pushedOn s.bus.ram s.cpu.sp [hi ret, lo ret, status] }
      cpu := { s.cpu with
        pc := cartWord s.cart k.vector
        sp := s.cpu.sp - 3#8
        stat := s.cpu.stat ||| 0x04#8 } } := by
  simp only [enterVia, pushAddr_eq_pushedOn, push_eq_pushedOn, readWord_vector, pushedOn, cartWord,
    Cpu.setI_true_eq, State.setPc, State.mapCpu, BitVec.sub_sub]
  rfl

theorem exec_brk (s : State) : exec .brk s = .next { s with
    bus := { s.bus with ram := (pushedOn s.bus.ram s.cpu.sp
      [hi (s.cpu.pc + 1#16), lo (s.cpu.pc + 1#16), s.cpu.stat ||| 0x30#8]) }
    cpu := { s.cpu with
      pc := cartWord s.cart 0xFFFE#16
      sp := s.cpu.sp - 3#8
      stat := s.cpu.stat ||| 0x04#8
      next := s.cpu.cycl + 7 } } := by
  change Host.Outcome.next
    ((enterVia (s.cpu.pc + 1#16) s.cpu.pushedByBreak Interrupt.irq.vector s).busyFor 7) = _
  rw [enterVia_eq_pushedOn]
  rfl

theorem exec_rti (s : State) : exec .rti s = .next { s with cpu := { s.cpu with
    pc := mkAddr (s.bus.ram.get (stackCell (s.cpu.sp + 3#8)))
      (s.bus.ram.get (stackCell (s.cpu.sp + 2#8)))
    sp := s.cpu.sp + 3#8
    stat := statFromPulled (s.bus.ram.get (stackCell (s.cpu.sp + 1#8)))
    next := s.cpu.cycl + 6 } } := by
  change execRti s = _
  simp only [execRti, returnFromInterrupt, pull_eq_stackCell, pullAddr_eq_stackCell, State.setPc,
    State.busyFor, State.mapCpu, BitVec.add_assoc]
  rfl

/-- Settles O11: BRK is an entry through the vector at $FFFE, RTI pulls STAT and then a word. -/
theorem breakAndReturnForms : Obligations.BreakAndReturnForms :=
  fun s => ⟨rfl, rfl, exec_brk s, exec_rti s⟩

/-! ### What was pushed is pulled again -/

theorem stackCell_injective {p q : Byte} (h : stackCell p = stackCell q) : p = q := by
  rw [stackCell_eq, stackCell_eq] at h
  exact BitVec.eq_of_toNat_eq (Nat.add_left_cancel h)

/-- The slot `k + 1` below `sp` is slot `k` below `sp - 1`. -/
theorem sub_ofNat_succ (sp : Byte) (k : Nat) :
    sp - BitVec.ofNat 8 (k + 1) = sp - 1#8 - BitVec.ofNat 8 k := by
  rw [Nat.add_comm, BitVec.ofNat_add, BitVec.sub_sub]

/-- Pushes leave every cell but those of their slots. -/
theorem get_pushedOn_of_ne {bytes : List Byte} {ram : Memory} {sp : Byte} {x : Nat}
    (h : ∀ k < bytes.length, x ≠ stackCell (sp - BitVec.ofNat 8 k)) :
    (pushedOn ram sp bytes).get x = ram.get x := by
  induction bytes generalizing ram sp with
  | nil => rfl
  | cons b rest ih =>
    have h0 : x ≠ stackCell sp := by simpa using h 0 (Nat.succ_pos _)
    rw [pushedOn, ih fun k hk => ?_, Memory.get_put_of_ne _ _ h0]
    have hk' := h (k + 1) (Nat.succ_lt_succ hk)
    rwa [sub_ofNat_succ] at hk'

/-- The cell of a slot holds the byte pushed to it, as long as the pushes do not come round the page. -/
theorem get_pushedOn {bytes : List Byte} {ram : Memory} {sp : Byte} (hram : ram.wf = true)
    (hlen : bytes.length ≤ 256) {k : Nat} (hk : k < bytes.length) :
    (pushedOn ram sp bytes).get (stackCell (sp - BitVec.ofNat 8 k)) = bytes[k] := by
  induction bytes generalizing ram sp k with
  | nil => exact absurd hk (Nat.not_lt_zero k)
  | cons b rest ih =>
    cases k with
    | zero =>
      have hslot : ∀ j < rest.length, stackCell (sp - BitVec.ofNat 8 0) ≠
          stackCell (sp - 1#8 - BitVec.ofNat 8 j) := fun j hj e => by
        have hj' : j + 1 < 256 := Nat.lt_of_lt_of_le (Nat.succ_lt_succ hj) hlen
        have hsp := stackCell_injective e
        bv_omega
      rw [pushedOn, get_pushedOn_of_ne hslot, Memory.get_put _ hram, if_pos (by simp)]
      rfl
    | succ k =>
      rw [pushedOn, sub_ofNat_succ sp k]
      exact ih (ram.wf_put _ b hram) (Nat.le_of_succ_le hlen) (Nat.lt_of_succ_lt_succ hk)

/-- RTI after an entry's three pushes resumes at the return address with the status that was pushed. -/
theorem exec_rti_of_pushed {s t : State} {ret : Addr} {status st : Byte} (hram : s.bus.ram.wf = true)
    (hstatus : statFromPulled status = st)
    (ht : t.bus.ram = pushedOn s.bus.ram s.cpu.sp [hi ret, lo ret, status])
    (hsp : t.cpu.sp = s.cpu.sp - 3#8) :
    ∃ u, exec .rti t = .next u ∧ u.cpu.pc = ret ∧ u.cpu.stat = st ∧
      u.cpu.sp = s.cpu.sp := by
  have hget {k : Nat} (hk : k < 3) := get_pushedOn (bytes := [hi ret, lo ret, status]) (sp := s.cpu.sp)
    hram (by simp) hk
  have hsp1 : t.cpu.sp + 1#8 = s.cpu.sp - BitVec.ofNat 8 2 := by bv_omega
  have hsp2 : t.cpu.sp + 2#8 = s.cpu.sp - BitVec.ofNat 8 1 := by bv_omega
  have hsp3 : t.cpu.sp + 3#8 = s.cpu.sp - BitVec.ofNat 8 0 := by bv_omega
  refine ⟨_, exec_rti t, ?pc, ?stat, ?sp⟩
  case pc =>
    rw [ht, hsp2, hsp3, hget (by decide), hget (by decide)]
    exact mkAddr_hi_lo ret
  case stat => rw [ht, hsp1, hget (by decide)]; exact hstatus
  case sp => rw [hsp3]; exact BitVec.sub_zero _

/-- RTS after a pushed word resumes one past it. -/
theorem exec_rts_of_pushed {s t : State} {ret pc : Addr} (hram : s.bus.ram.wf = true)
    (hpc : ret + 1#16 = pc) (ht : t.bus.ram = pushedOn s.bus.ram s.cpu.sp [hi ret, lo ret])
    (hsp : t.cpu.sp = s.cpu.sp - 2#8) :
    ∃ u, exec .rts t = .next u ∧ u.cpu.pc = pc ∧ u.cpu.stat = t.cpu.stat ∧ u.cpu.sp = s.cpu.sp := by
  have hget {k : Nat} (hk : k < 2) := get_pushedOn (bytes := [hi ret, lo ret]) (sp := s.cpu.sp)
    hram (by simp) hk
  have hsp1 : t.cpu.sp + 1#8 = s.cpu.sp - BitVec.ofNat 8 1 := by bv_omega
  have hsp2 : t.cpu.sp + 2#8 = s.cpu.sp - BitVec.ofNat 8 0 := by bv_omega
  refine ⟨_, exec_rts t, ?pc, rfl, ?sp⟩
  case pc =>
    rw [ht, hsp1, hsp2, hget (by decide), hget (by decide)]
    exact (congrArg (· + 1#16) (mkAddr_hi_lo ret)).trans hpc
  case sp => rw [hsp2]; exact BitVec.sub_zero _

/-- A pulled byte that differs from STAT in the B bits alone gives STAT back. -/
theorem statFromPulled_eq_stat {s : State} (h : StatInv s) {v : Byte}
    (hv : v &&& 0xCF#8 = s.cpu.stat &&& 0xCF#8) : statFromPulled v = s.cpu.stat := by
  have hbits : ∀ st : Byte, st.getLsbD 4 = false → st.getLsbD 5 = true →
      (st &&& 0xCF#8) ||| 0x20#8 = st := by decide
  rw [statFromPulled, hv]
  exact hbits s.cpu.stat h.1 h.2

theorem statFromPulled_pushedByInterrupt {s : State} (h : StatInv s) :
    statFromPulled s.cpu.pushedByInterrupt = s.cpu.stat :=
  statFromPulled_eq_stat h <| by
    have hmask : ∀ st : Byte, ((st &&& 0xEF#8) ||| 0x20#8) &&& 0xCF#8 = st &&& 0xCF#8 := by decide
    exact hmask s.cpu.stat

theorem statFromPulled_pushedByBreak {s : State} (h : StatInv s) :
    statFromPulled s.cpu.pushedByBreak = s.cpu.stat :=
  statFromPulled_eq_stat h <| by
    have hmask : ∀ st : Byte, (st ||| 0x30#8) &&& 0xCF#8 = st &&& 0xCF#8 := by decide
    exact hmask s.cpu.stat

/-- Settles O30: each entry pushes what RTI or RTS then pulls, and STAT differs from its pushed copy in the B
bits alone. -/
theorem returnsUndoEntries : Obligations.ReturnsUndoEntries := by
  intro s hstat hram
  refine ⟨fun k => ?interrupt, ⟨_, exists_and_left.2 ⟨exec_brk s, ?brk⟩⟩,
    fun w => ⟨_, exists_and_left.2 ⟨exec_jsrAbs w s, ?jsr⟩⟩⟩
  case interrupt =>
    rw [enterInterrupt, enterVia_eq_pushedOn]
    exact exec_rti_of_pushed hram (statFromPulled_pushedByInterrupt hstat) rfl rfl
  case brk => exact exec_rti_of_pushed hram (statFromPulled_pushedByBreak hstat) rfl rfl
  case jsr => exact exec_rts_of_pushed hram (BitVec.sub_add_cancel _ _) rfl rfl

end Sys2Proof.Machine

/-! SUPPORT. The combined and unstable opcodes (44_undocumented.md) in the claims' terms: the carry of a shift or
rotate next to a load or into the adder, and a bus write next to a change of registers. -/

namespace Sys2Proof.Machine

open Sys2Proof.Claims

/-! ### The carry beside a load, and into the adder -/

theorem Cpu.setC_loadA_eq (out : Bool) (v : Byte) (c : Cpu) :
    (c.setC out).loadA v = { c with a := v, stat := shiftedStat out v c.stat } := by
  simp only [loadA_eq, setC_eq, zn_withC, shiftedStat]

theorem Cpu.setC_loadX_eq (out : Bool) (v : Byte) (c : Cpu) :
    (c.setC out).loadX v = { c with x := v, stat := shiftedStat out v c.stat } := by
  simp only [loadX_eq, setC_eq, zn_withC, shiftedStat]

theorem Cpu.loadA_setC_eq (out : Bool) (v : Byte) (c : Cpu) :
    (c.loadA v).setC out = { c with a := v, stat := shiftedStat out v c.stat } := by
  simp only [loadA_eq, setC_eq, shiftedStat]

theorem withC_withC (b b' : Bool) (st : Byte) : withC b (withC b' st) = withC b st := by
  simp only [← putBit_zero_eq_withC]
  ext i hi
  by_cases h : i = 0 <;> simp [h]

/-- The adder looks at STAT through its carry alone, and writes C itself: a carry set just before it is its
carry in, and leaves no other trace (R168). -/
theorem Cpu.setC_addWithCarry_eq (b : Bool) (m : Byte) (c : Cpu) :
    (c.setC b).addWithCarry m = added m (if b then 1 else 0) c := by
  have hcarry : carryIn (c.setC b) = if b then 1 else 0 := by
    simp [carryIn, Cpu.setC]
  rw [addWithCarry_eq, hcarry, setC_eq]
  simp only [added, zn_withC, withV_withC, withC_withC]

/-- Settles O14: form by form the meaning is the Read-modify-write class, with a shift or count on memory and a
load, an add, a compare or a subtraction after it. -/
theorem combinedForms : Obligations.CombinedForms := by
  intro s
  refine ⟨?slo, ?rla, ?sre, ?rra, ?dcp, ?isb⟩
  case' slo =>
    refine modifiesAs_of_modifyClass (f := fun m res c => (c.setC (m.getLsbD 7)).loadA (c.a ||| res)) ?_
      (fun _ _ => rfl) (fun _ _ => Cpu.setC_loadA_eq _ _ _) fun _ _ _ => rfl
  case' rla =>
    refine modifiesAs_of_modifyClass (f := fun m res c => (c.setC (m.getLsbD 7)).loadA (c.a &&& res)) ?_
      rotateLeft_eq_rolled (fun _ _ => Cpu.setC_loadA_eq _ _ _) fun _ _ _ => rfl
  case' sre =>
    refine modifiesAs_of_modifyClass (f := fun m res c => (c.setC (m.getLsbD 0)).loadA (c.a ^^^ res)) ?_
      (fun _ _ => rfl) (fun _ _ => Cpu.setC_loadA_eq _ _ _) fun _ _ _ => rfl
  case' rra =>
    refine modifiesAs_of_modifyClass (f := fun m res c => (c.setC (m.getLsbD 0)).addWithCarry res) ?_
      rotateRight_eq_rored (fun _ _ => Cpu.setC_addWithCarry_eq _ _ _) fun _ _ _ => rfl
  case' dcp =>
    refine modifiesAs_of_modifyClass (f := fun _ res c => c.compare c.a res) ?_
      (fun _ _ => rfl) (fun _ _ => Cpu.compare_eq _ _ _) fun _ _ _ => rfl
  case' isb =>
    refine modifiesAs_of_modifyClass (f := fun _ res c => c.subWithBorrow res) ?_
      (fun _ _ => rfl) (fun _ _ => Cpu.subWithBorrow_eq _ _) fun _ _ _ => rfl
  all_goals
    intro b w form hform
    fin_cases hform <;> exact ⟨rfl, rfl⟩

/-! ### The immediate combinations -/

theorem Cpu.andCarry_eq (m : Byte) (c : Cpu) : c.andCarry m = { c with
    a := c.a &&& m
    stat := shiftedStat ((c.a &&& m).getLsbD 7) (c.a &&& m) c.stat } := by
  have hn : (c.loadA (c.a &&& m)).n = (c.a &&& m).getLsbD 7 := setZN_n _ _
  rw [andCarry, hn, loadA_setC_eq]

theorem Cpu.andRotateRight_eq (m : Byte) (c : Cpu) : c.andRotateRight m = { c with
    a := rored (c.a &&& m) c
    stat := withV ((rored (c.a &&& m) c).getLsbD 6 ^^ (rored (c.a &&& m) c).getLsbD 5)
      (shiftedStat ((rored (c.a &&& m) c).getLsbD 6) (rored (c.a &&& m) c) c.stat) } := by
  simp only [andRotateRight, rotateRight_eq_rored, loadA_setC_eq, setV_eq]

theorem Cpu.andXSubtract_eq (m : Byte) (c : Cpu) : c.andXSubtract m = { c with
    x := (c.a &&& c.x) - m
    stat := shiftedStat (decide (m.toNat ≤ (c.a &&& c.x).toNat)) ((c.a &&& c.x) - m) c.stat } := by
  simp only [andXSubtract, setC_loadX_eq, BitVec.le_def]

/-- Settles O15: form by form the meaning is the Read class on the immediate; each combination is a load of A or
X with the C, and for ARR the V, of its own. -/
theorem immediateCombinedForms : Obligations.ImmediateCombinedForms := by
  refine fun s => ⟨readsAs_of_readClass ?_ Cpu.andCarry_eq fun _ _ => rfl,
    readsAs_of_readClass ?_ (fun _ _ => Cpu.setC_loadA_eq _ _ _) fun _ _ => rfl,
    readsAs_of_readClass ?_ Cpu.andRotateRight_eq fun _ _ => rfl,
    readsAs_of_readClass ?_ Cpu.andXSubtract_eq fun _ _ => rfl⟩
  all_goals
    intro b w form hform
    fin_cases hform <;> exact ⟨rfl, rfl⟩

/-! ### A write beside a change of registers

No write looks at a CPU register, so it may come before or after a change of them. -/

theorem ppuWrite_mapCpu (a : Addr) (v : Byte) (f : Cpu → Cpu) (s : State) :
    ppuWrite a v (s.mapCpu f) = (ppuWrite a v s).mapCpu f := by
  simp only [ppuWrite, apply_ite (State.mapCpu f)]
  rfl

theorem ppuRegWrite_mapCpu (r : Nat) (v : Byte) (f : Cpu → Cpu) (s : State) :
    ppuRegWrite r v (s.mapCpu f) = (ppuRegWrite r v s).mapCpu f := by
  unfold ppuRegWrite
  split
  case h_7 => exact congrArg (State.mapPpu Ppu.advanceV) (ppuWrite_mapCpu _ v f s)
  all_goals rfl

theorem busWrite_mapCpu (a : Addr) (v : Byte) (f : Cpu → Cpu) (s : State) :
    busWrite a v (s.mapCpu f) = (busWrite a v s).mapCpu f := by
  simp only [busWrite, ppuRegWrite_mapCpu, apply_ite (State.mapCpu f)]
  rfl

theorem Cpu.loadAXSP_eq (m : Byte) (c : Cpu) : c.loadAXSP m = { c with
    a := m &&& c.sp, x := m &&& c.sp, sp := m &&& c.sp, stat := zn (m &&& c.sp) c.stat } :=
  loadA_eq _ _

/-- TAS writes as the Write class with SP's new value, and its write does not see the change of SP (R188). -/
theorem tas_eq (w : Addr) (n : Nat) (s : State) : tas (.aby w) n s = .next
    { busWrite (w + zext16 s.cpu.y) (s.cpu.a &&& s.cpu.x &&& h1 (w + zext16 s.cpu.y) s.cpu.y) s with
      cpu := { s.cpu with sp := s.cpu.a &&& s.cpu.x, next := s.cpu.cycl + n } } := by
  rw [tas, writeClass_eq]
  simp only [resolve, busWrite_mapCpu]
  rfl

/-- Settles O16: under the policy each form's meaning is the one it runs: the Read class, the Write class, or
for TAS the Write class after the change of SP. -/
theorem unstableForms : Obligations.UnstableForms := by
  intro s hp
  refine ⟨readsAs_of_readClass ?_ (fun _ _ => Cpu.loadA_eq _ _) fun _ _ => rfl,
    readsAs_of_readClass ?_ (fun _ _ => Cpu.loadAX_eq _ _) fun _ _ => rfl,
    writesAs_of_writeClass ?_, writesAs_of_writeClass ?_, writesAs_of_writeClass ?_, ?tas,
    readsAs_of_readClass ?_ Cpu.loadAXSP_eq fun _ _ => rfl⟩
  case tas =>
    intro b w form hform
    fin_cases hform
    exact ⟨rfl, (unstable_nmos hp).trans (tas_eq w 5 s)⟩
  all_goals
    intro b w form hform
    fin_cases hform <;> exact ⟨rfl, unstable_nmos hp⟩

end Sys2Proof.Machine

/-! SUPPORT. The registers of the PPU (48_ppu_registers.md) and the controller port (R204, R205), each access as
one record: the writes of $2005 by the fields of `t`, those of $2006 by its bytes, and `v` modulo 2^15. -/

namespace Sys2Proof.Machine

open Sys2Proof.Claims

/-! ### The writes of $2005, by the fields of the scroll register (R35, R198) -/

section fields

variable (fy : BitVec 3) (ny nx : BitVec 1) (cy cx : BitVec 5)

@[simp] theorem coarseX_scrollOf : coarseX (scrollOf fy ny nx cy cx) = cx :=
  BitVec.extractLsb'_append_eq_right

@[simp] theorem coarseY_scrollOf : coarseY (scrollOf fy ny nx cy cx) = cy := by
  rw [coarseY, scrollOf, BitVec.extractLsb'_append_eq_of_le (by omega)]
  exact BitVec.extractLsb'_append_eq_right

@[simp] theorem nametableX_scrollOf : nametableX (scrollOf fy ny nx cy cx) = nx := by
  rw [nametableX, scrollOf, BitVec.extractLsb'_append_eq_of_le (by omega),
    BitVec.extractLsb'_append_eq_of_le (by omega)]
  exact BitVec.extractLsb'_append_eq_right

@[simp] theorem nametableY_scrollOf : nametableY (scrollOf fy ny nx cy cx) = ny := by
  rw [nametableY, scrollOf, BitVec.extractLsb'_append_eq_of_le (by omega),
    BitVec.extractLsb'_append_eq_of_le (by omega), BitVec.extractLsb'_append_eq_of_le (by omega)]
  exact BitVec.extractLsb'_append_eq_right

@[simp] theorem fineY_scrollOf : fineY (scrollOf fy ny nx cy cx) = fy := by
  rw [fineY, scrollOf, BitVec.extractLsb'_append_eq_of_le (by omega),
    BitVec.extractLsb'_append_eq_of_le (by omega), BitVec.extractLsb'_append_eq_of_le (by omega),
    BitVec.extractLsb'_append_eq_of_le (by omega)]
  exact BitVec.extractLsb'_append_eq_right

end fields

/-- The high five bits of a byte fill a coarse field. -/
theorem toNat_extractLsb'_three_five (b : Byte) : (b.extractLsb' 3 5).toNat = b.toNat / 8 := by
  rw [BitVec.extractLsb'_toNat, Nat.shiftRight_eq_div_pow]
  omega

/-- The mask and the byte of the first $2005 write leave every field of `t` but coarse X. -/
theorem maskedScrollX_eq_scrollOf (t : Addr) (b : Byte) : (t &&& 0x7FE0#16) ||| zext16 (b >>> 3) =
    scrollOf (fineY t) (nametableY t) (nametableX t) (coarseY t) (b.extractLsb' 3 5) := by
  apply BitVec.eq_of_getLsbD_eq
  intro i hi
  simp only [scrollOf, fineY, nametableY, nametableX, coarseY, BitVec.getLsbD_append]
  interval_cases i <;> simp [zext16]

/-- The mask and the byte of the second $2005 write leave the nametable bits and coarse X of `t`. -/
theorem maskedScrollY_eq_scrollOf (t : Addr) (b : Byte) :
    (t &&& 0x0C1F#16) ||| (zext16 (b &&& 0x07#8) <<< 12) ||| (zext16 (b >>> 3) <<< 5) =
    scrollOf (b.setWidth 3) (nametableY t) (nametableX t) (b.extractLsb' 3 5) (coarseX t) := by
  apply BitVec.eq_of_getLsbD_eq
  intro i hi
  simp only [scrollOf, nametableY, nametableX, coarseX, BitVec.getLsbD_append]
  interval_cases i <;> simp [zext16]

theorem setWidth_three_eq_ofNat (b : Byte) : b.setWidth 3 = BitVec.ofNat 3 (b.toNat % 8) :=
  BitVec.eq_of_toNat_eq (by simp)

theorem Ppu.writeScroll_first (b : Byte) {p : Ppu} (hw : p.w = false) : p.writeScroll b = { p with
    fineX := BitVec.ofNat 3 (b.toNat % 8)
    t := scrollOf (fineY p.t) (nametableY p.t) (nametableX p.t) (coarseY p.t) (b.extractLsb' 3 5)
    w := true } := by
  rw [Ppu.writeScroll, hw, maskedScrollX_eq_scrollOf, setWidth_three_eq_ofNat]
  rfl

theorem Ppu.writeScroll_second (b : Byte) {p : Ppu} (hw : p.w = true) : p.writeScroll b = { p with
    t := scrollOf (b.setWidth 3) (nametableY p.t) (nametableX p.t) (b.extractLsb' 3 5) (coarseX p.t)
    w := false } := by
  rw [Ppu.writeScroll, hw, maskedScrollY_eq_scrollOf]
  rfl

/-! ### The writes of $2006, by the bytes of the address (R199) -/

theorem toNat_mkAddr (h l : Byte) : (mkAddr h l).toNat = h.toNat * 256 + l.toNat := by
  rw [mkAddr_eq_ofNat, BitVec.toNat_ofNat]
  omega

theorem toNat_and_3F (b : Byte) : (b &&& 0x3F#8).toNat = b.toNat % 64 :=
  (BitVec.toNat_and ..).trans (Nat.and_two_pow_sub_one_eq_mod b.toNat 6)

theorem toNat_and_7F (b : Byte) : (b &&& 0x7F#8).toNat = b.toNat % 128 :=
  (BitVec.toNat_and ..).trans (Nat.and_two_pow_sub_one_eq_mod b.toNat 7)

/-- The first $2006 write fills the high byte of `t` with six bits. -/
theorem maskedAddrHigh_eq_mkAddr (t : Addr) (b : Byte) :
    (t &&& 0x00FF#16) ||| (zext16 (b &&& 0x3F#8) <<< 8) = mkAddr (b &&& 0x3F#8) (lo t) := by
  apply BitVec.eq_of_getLsbD_eq
  intro i hi
  rw [mkAddr, BitVec.getLsbD_append]
  interval_cases i <;> simp [zext16, lo]

/-- The second $2006 write fills the low byte of `t`, and keeps seven bits of the high byte. -/
theorem maskedAddrLow_eq_mkAddr (t : Addr) (b : Byte) :
    (t &&& 0x7F00#16) ||| zext16 b = mkAddr (hi t &&& 0x7F#8) b := by
  apply BitVec.eq_of_getLsbD_eq
  intro i hlt
  rw [mkAddr, BitVec.getLsbD_append]
  interval_cases i <;> simp [zext16, hi]

theorem Ppu.writeAddr_first (b : Byte) {p : Ppu} (hw : p.w = false) : p.writeAddr b = { p with
    t := mkAddr (b &&& 0x3F#8) (lo p.t), w := true } := by
  rw [Ppu.writeAddr, hw, maskedAddrHigh_eq_mkAddr]
  rfl

theorem Ppu.writeAddr_second (b : Byte) {p : Ppu} (hw : p.w = true) : p.writeAddr b = { p with
    t := mkAddr (hi p.t &&& 0x7F#8) b, v := mkAddr (hi p.t &&& 0x7F#8) b, w := false } := by
  rw [Ppu.writeAddr, hw, maskedAddrLow_eq_mkAddr]
  rfl

/-- Settles O45: each write by the latch `w`; `t` is made of the fields or of the bytes that it fills and of
those it keeps. -/
theorem scrollAndAddressWrites : Obligations.ScrollAndAddressWrites := by
  intro s a b hlo hhi
  rw [busWrite_ppuRegister b s hlo hhi]
  refine ⟨fun h hw => ?scrollX, fun h hw => ?scrollY, fun h hw => ?addrHigh, fun h hw => ?addrLow⟩ <;> rw [h]
  case scrollX =>
    refine ⟨_, congrArg ({ s with ppu := · }) (Ppu.writeScroll_first b hw),
      ?_, coarseY_scrollOf .., nametableX_scrollOf .., nametableY_scrollOf .., fineY_scrollOf ..,
      scrollOf_bit15 ..⟩
    rw [coarseX_scrollOf, toNat_extractLsb'_three_five]
  case scrollY =>
    refine ⟨_, congrArg ({ s with ppu := · }) (Ppu.writeScroll_second b hw),
      ?_, ?_, coarseX_scrollOf .., nametableX_scrollOf .., nametableY_scrollOf .., scrollOf_bit15 ..⟩
    · rw [coarseY_scrollOf, toNat_extractLsb'_three_five]
    · rw [fineY_scrollOf, BitVec.toNat_setWidth]
  case addrHigh =>
    refine ⟨_, congrArg ({ s with ppu := · }) (Ppu.writeAddr_first b hw), ?_⟩
    rw [toNat_mkAddr, toNat_and_3F, toNat_lo]
  case addrLow =>
    refine ⟨_, congrArg ({ s with ppu := · }) (Ppu.writeAddr_second b hw), ?_⟩
    rw [toNat_mkAddr, toNat_and_7F, toNat_hi]

/-! ### The data port (R200-R202) -/

/-- The mask after the increment is a sum modulo 2^15 (R200). -/
theorem Ppu.advanceV_eq (p : Ppu) : p.advanceV = { p with v := nextV p } := by
  have hv : p.advanceV.v = nextV p := by
    apply BitVec.eq_of_toNat_eq
    rw [advanceV, incrementMode, nextV, BitVec.toNat_and]
    refine (Nat.and_two_pow_sub_one_eq_mod _ 15).trans ?_
    rw [BitVec.toNat_add, BitVec.toNat_ofNat, apply_ite BitVec.toNat]
    simp only [BitVec.toNat_ofNat, Nat.reducePow, Nat.reduceMod]
    omega
  rw [← hv]
  rfl

/-- A write to the PPU address space changes neither `v` nor the increment. -/
@[simp] theorem nextV_ppuWrite (a : Addr) (b : Byte) (s : State) :
    nextV (ppuWrite a b s).ppu = nextV s.ppu := by
  obtain e | e | e := ppuWrite_cases a b s <;> rw [e] <;> rfl

theorem readPpuData_buffered {s : State} (h : s.ppu.v.toNat % 16384 < 0x3F00) :
    readPpuData s = (s.ppu.dataBuffer, { s with ppu := { s.ppu with
      dataBuffer := ppuRead (BitVec.ofNat 16 (s.ppu.v.toNat % 16384)) s, v := nextV s.ppu } }) := by
  have hbelow := (ppuAddr_ult (a := s.ppu.v) rfl 0x3F00).2 h
  refine (if_pos hbelow).trans ?_
  simp only [ppuAddr_eq_ofNat rfl, State.mapPpu, Ppu.advanceV_eq]
  rfl

/-- In palette space the address of the nametable byte underneath is a difference that does not wrap. -/
theorem underlyingAddr_eq_ofNat {a : Addr} (h : 0x3F00 ≤ a.toNat % 16384) :
    BitVec.ofNat 16 (a.toNat % 16384) - 0x1000#16 = BitVec.ofNat 16 (a.toNat % 16384 - 0x1000) :=
  BitVec.ofNat_sub_ofNat_of_le _ _ (by omega) (by omega)

/-- Settles O46: a read by the side of $3F00 on which the address lies, and a write to the PPU address space,
which leaves `v` to be advanced. -/
theorem dataPort : Obligations.DataPort := by
  intro s a b hlo hhi h7
  rw [busRead_ppuRegister s hlo hhi, busWrite_ppuRegister b s hlo hhi, h7]
  refine ⟨readPpuData_buffered, fun h => ?palette, _, rfl, ?write⟩
  case palette =>
    have hpalette : ¬ (s.ppu.v &&& 0x3FFF#16).ult 0x3F00#16 = true :=
      fun hbelow => Nat.not_lt.2 h ((ppuAddr_ult (a := s.ppu.v) rfl 0x3F00).1 hbelow)
    refine (if_neg hpalette).trans ?_
    simp only [ppuAddr_eq_ofNat rfl, underlyingAddr_eq_ofNat h, State.mapPpu, Ppu.advanceV_eq]
    rfl
  case write =>
    simp only [ppuRegWrite, State.mapPpu, Ppu.advanceV_eq, nextV_ppuWrite, ppuAddr_eq_ofNat rfl]

/-! ### The control, mask, status and OAM registers (R190-R197) -/

theorem ppuRegRead_writeOnly {r : Nat} (h : r ∈ [0, 1, 3, 5, 6]) (s : State) :
    ppuRegRead r s = (0x00#8, s) := by
  fin_cases h <;> rfl

theorem Ppu.statusByte_eq (p : Ppu) : p.statusByte =
    (if p.vblank then 0x80#8 else 0x00#8) ||| (if p.sprite0Hit then 0x40#8 else 0x00#8) |||
      (if p.spriteOverflow then 0x20#8 else 0x00#8) := by
  simp only [statusByte, bit8, apply_ite (fun x : Byte => x <<< 7), apply_ite (fun x : Byte => x <<< 6),
    apply_ite (fun x : Byte => x <<< 5)]
  rfl

/-- Settles O44: each register is one case of the register file, and $2002 answers the flags in bits 7 to 5. -/
theorem ppuRegisters : Obligations.PpuRegisters := by
  intro s a v hlo hhi
  rw [busRead_ppuRegister s hlo hhi, busWrite_ppuRegister v s hlo hhi]
  refine ⟨fun h => ppuRegRead_writeOnly h s, fun h => ?ctrl, fun h => ?mask, fun h => ?status,
    fun h => ?oamAddr, fun h => ?oamData⟩ <;> rw [h]
  case status => exact ⟨congrArg (·, s.mapPpu Ppu.afterStatusRead) s.ppu.statusByte_eq, rfl⟩
  case oamData => exact ⟨rfl, rfl⟩
  all_goals rfl

/-! ### The controller port (R204, R205) -/

theorem InputDevice.shift_of_cons {d : InputDevice} {x : Byte} {rest : List Byte} (h : d.answers = x :: rest) :
    d.shift = (x, { d with answers := rest }) := by
  simp only [shift, h]

theorem InputDevice.shift_of_nil {d : InputDevice} (h : d.answers = []) :
    d.shift = (Config.inputByte d.past, { d with past := d.past + 1 }) := by
  simp only [shift, h]

theorem busRead_controllerPort (s : State) : busRead 0x4016#16 s = controllerRead s := rfl

theorem busWrite_controllerPort (b : Byte) (s : State) : busWrite 0x4016#16 b s = controllerWrite b s := rfl

/-- Settles O47: a read by whether an answer is left, a write by the strobe before it and after it. -/
theorem controllerPort : Obligations.ControllerPort := by
  intro s b
  rw [busRead_controllerPort, busWrite_controllerPort, controllerRead]
  refine ⟨fun x rest h => ?answer, fun h => ⟨Config.inputByte s.input.past, ?past⟩, ?write⟩
  case answer => rw [InputDevice.shift_of_cons h]
  case past => rw [InputDevice.shift_of_nil h]
  case write =>
    unfold controllerWrite
    cases s.bus.ctrlStrobe <;> cases b.getLsbD 0 <;> rfl

end Sys2Proof.Machine

/-! SUPPORT. The PPU clock by the parts of the PPU that its stages write (R207): a frame rule for each stage, and
what a dot of a rendered line makes of each part. -/

namespace Sys2Proof.Machine

open Sys2Proof.Claims

/-! ### The parts of the PPU -/

/-- The fields of the PPU, grouped by the stages of a clock that write them. What the registers' own accesses alone
use (`w`, `oamAddr`, `dataBuffer`) is in no part. -/
inductive Ppu.Part where
  | regs | oam | counters | vblank | v | latches | shifters | staged | overflow | active | hit | frame
  deriving DecidableEq

/-- What no stage of a clock writes. -/
def Ppu.regs (p : Ppu) : Byte × Byte × Addr × BitVec 3 × Memory × Memory :=
  (p.ctrl, p.mask, p.t, p.fineX, p.nt, p.pal)

/-- What the advance writes (R208). -/
def Ppu.counters (p : Ppu) : Nat × Nat × Bool × Bool := (p.scanline, p.dot, p.oddFrame, p.frameReady)

/-- What the start and the end of vblank write (R210, R211). -/
def Ppu.vblankFlags (p : Ppu) : Bool × Bool := (p.vblank, p.nmiOccurred)

/-- A part is the same in `q` as in `p`. -/
def Ppu.Part.Same (p q : Ppu) : Ppu.Part → Prop
  | .regs => q.regs = p.regs
  | .oam => q.oam = p.oam
  | .counters => q.counters = p.counters
  | .vblank => q.vblankFlags = p.vblankFlags
  | .v => q.v = p.v
  | .latches => Claims.latches q = Claims.latches p
  | .shifters => Claims.shifters q = Claims.shifters p
  | .staged => Claims.staged q = Claims.staged p
  | .overflow => q.spriteOverflow = p.spriteOverflow
  | .active => Claims.active q = Claims.active p
  | .hit => q.sprite0Hit = p.sprite0Hit
  | .frame => q.frame = p.frame

/-- `q` is `p` but for the parts listed. -/
def Ppu.ChangesOnly (parts : List Ppu.Part) (p q : Ppu) : Prop := ∀ x ∉ parts, x.Same p q

theorem Ppu.regs_eq_iff {p q : Ppu} : q.regs = p.regs ↔ q.ctrl = p.ctrl ∧ q.mask = p.mask ∧ q.t = p.t ∧
    q.fineX = p.fineX ∧ q.nt = p.nt ∧ q.pal = p.pal := by
  simp only [regs, Prod.mk.injEq]

theorem Ppu.counters_eq_iff {p q : Ppu} : q.counters = p.counters ↔ q.scanline = p.scanline ∧
    q.dot = p.dot ∧ q.oddFrame = p.oddFrame ∧ q.frameReady = p.frameReady := by
  simp only [counters, Prod.mk.injEq]

namespace Ppu.ChangesOnly

variable {p q r : Ppu} {parts parts' : List Ppu.Part}

theorem mono (h : ChangesOnly parts p q) (hs : parts ⊆ parts') : ChangesOnly parts' p q :=
  fun x hx => h x (mt (@hs x) hx)

theorem refl (p : Ppu) : ChangesOnly parts p p := fun x _ => by cases x <;> exact rfl

theorem trans (h : ChangesOnly parts p q) (h' : ChangesOnly parts' q r) :
    ChangesOnly (parts ++ parts') p r := by
  intro x hx
  obtain ⟨hp, hq⟩ := not_or.1 (mt List.mem_append.2 hx)
  have hpq := h x hp
  have hqr := h' x hq
  cases x <;> exact Eq.trans hqr hpq

end Ppu.ChangesOnly

/-- `t` is `s` but for the parts of the PPU listed. -/
structure Changes (parts : List Ppu.Part) (s t : State) : Prop where
  ppuOnly : PpuOnly s t
  same : Ppu.ChangesOnly parts s.ppu t.ppu

namespace Changes

variable {s t u : State} {parts parts' : List Ppu.Part}

theorem trans (h : Changes parts s t) (h' : Changes parts' t u) : Changes (parts ++ parts') s u :=
  ⟨h.ppuOnly.trans h'.ppuOnly, h.same.trans h'.same⟩

/-- A stage that runs under a condition. -/
theorem ite {c : Prop} [Decidable c] (h : Changes parts s t) : Changes parts s (if c then t else s) :=
  iteInduction (motive := Changes parts s) (fun _ => h) fun _ => ⟨.refl s, .refl s.ppu⟩

theorem mapPpu {f : Ppu → Ppu} {s : State} (h : Ppu.ChangesOnly parts s.ppu (f s.ppu)) :
    Changes parts s (s.mapPpu f) :=
  ⟨.mapPpu f s, h⟩

theorem cart (h : Changes parts s t) : t.cart = s.cart := by
  obtain ⟨p, rfl⟩ := h.ppuOnly
  rfl

theorem regs (h : Changes parts s t) (hx : .regs ∉ parts := by decide) : t.ppu.regs = s.ppu.regs :=
  h.same _ hx

theorem counters (h : Changes parts s t) (hx : .counters ∉ parts := by decide) :
    t.ppu.counters = s.ppu.counters :=
  h.same _ hx

theorem launch (h : Changes parts s t) : t.launch = s.launch := by
  obtain ⟨p, rfl⟩ := h.ppuOnly
  rfl

end Changes

/-! ### The footprint of each stage -/

theorem Ppu.preRenderClear_changes (p : Ppu) :
    ChangesOnly [.vblank, .hit, .overflow] p p.preRenderClear := by
  intro x hx
  cases x <;> simp at hx <;> rfl

theorem Ppu.oddSkip_changes (p : Ppu) : ChangesOnly [.counters] p p.oddSkip := by
  unfold Ppu.oddSkip
  split
  · intro x hx
    cases x <;> simp at hx <;> rfl
  · exact .refl p

theorem Ppu.advance_changes (p : Ppu) : ChangesOnly [.counters] p p.advance := by
  obtain ⟨d, l, odd, ready, e⟩ := p.advance_fields
  rw [e]
  intro x hx
  cases x <;> simp at hx <;> rfl

theorem backgroundFetch_changes (s : State) : Changes [.v, .latches, .shifters] s (backgroundFetch s) := by
  obtain ⟨v, id, at_, lo_, hi_, a, b, c, d, e, -⟩ := backgroundFetch_fields s
  rw [e]
  refine ⟨⟨_, rfl⟩, fun x hx => ?_⟩
  cases x <;> simp at hx <;> rfl

theorem Ppu.scrollUpdates_changes (p : Ppu) : ChangesOnly [.v] p p.scrollUpdates := by
  obtain ⟨v, e⟩ := p.scrollUpdates_fields
  rw [e]
  intro x hx
  cases x <;> simp at hx <;> rfl

theorem spriteLoads_changes (s : State) : Changes [.staged, .active] s (spriteLoads s) := by
  obtain ⟨cs, cc, c0, nc, n0, e, -⟩ := spriteLoads_fields s
  rw [e]
  refine ⟨⟨_, rfl⟩, fun x hx => ?_⟩
  cases x <;> simp at hx <;> rfl

theorem outputPixel_changes (s : State) : Changes [.hit, .frame] s (outputPixel s) := by
  refine ⟨outputPixel_ppu s, fun x hx => ?_⟩
  cases x <;> simp at hx <;> rfl

theorem Ppu.spriteEvaluate_changes (p : Ppu) : ChangesOnly [.staged, .overflow] p p.spriteEvaluate := by
  obtain ⟨ns, nc, n0, ov, e⟩ := p.spriteEvaluate_fields
  rw [e]
  intro x hx
  cases x <;> simp at hx <;> rfl

theorem Ppu.backgroundShift_changes (p : Ppu) : ChangesOnly [.shifters] p p.backgroundShift := by
  obtain ⟨a, b, c, d, e⟩ := p.backgroundShift_fields
  rw [e]
  intro x hx
  cases x <;> simp at hx <;> rfl

theorem Ppu.spriteShift_changes (p : Ppu) : ChangesOnly [.active] p p.spriteShift := by
  obtain ⟨cs, e⟩ := p.spriteShift_fields
  rw [e]
  intro x hx
  cases x <;> simp at hx <;> rfl

/-- The side effects of a bus read on the PPU are on `v`, on vblank and on what is in no part (R57). -/
theorem busRead_changes (a : Addr) (s : State) :
    Ppu.ChangesOnly [.vblank, .v] s.ppu (busRead a s).2.ppu := by
  obtain e | e | e | ⟨b, e⟩ | e := busRead_cases a s <;> rw [e] <;> intro x hx <;>
    cases x <;> simp at hx <;> rfl

theorem dmaByte_changes (i : Nat) (s : State) :
    Ppu.ChangesOnly [.oam, .vblank, .v] s.ppu (dmaByte i s).ppu := by
  have hread := busRead_changes (s.bus.oamDmaAddr + BitVec.ofNat 16 i) s
  have hstore : Ppu.ChangesOnly [.oam] (busRead (s.bus.oamDmaAddr + BitVec.ofNat 16 i) s).2.ppu
      (dmaByte i s).ppu := by
    intro x hx
    cases x <;> simp at hx <;> rfl
  exact (hread.trans hstore).mono (by decide)

theorem dmaDrain_changes (s : State) : Ppu.ChangesOnly [.oam, .vblank, .v] s.ppu (dmaDrain s).ppu := by
  have hk (k i : Nat) (t : State) : Ppu.ChangesOnly [.oam, .vblank, .v] t.ppu (dmaBytes k i t).ppu := by
    induction k generalizing i t with
    | zero => exact .refl t.ppu
    | succ k ih => exact ((dmaByte_changes i t).trans (ih (i + 1) _)).mono (by decide)
  cases h : s.bus.oamDmaPpu
  · rw [dmaDrain_idle h]
    exact .refl s.ppu
  · rw [dmaDrain_copy h]
    exact hk 256 0 s

/-! ### The dot of a rendered line as a chain of stages (R207) -/

/-- `PreRenderClear()`, at line 261, dot 1. -/
def clearStage (s : State) : State :=
  if s.ppu.preRender ∧ s.ppu.dot = 1 then s.mapPpu Ppu.preRenderClear else s

/-- The pixel, on a dot that has one. -/
def pixelStage (s : State) : State := if s.ppu.onPixel then outputPixel s else s

/-- Sprite evaluation, at its dot. -/
def evaluateStage (s : State) : State :=
  if s.ppu.visible ∧ s.ppu.dot = 256 ∧ s.ppu.rendering then s.mapPpu Ppu.spriteEvaluate else s

/-- The sprite shift, on a dot with a pixel. -/
def slotStage (s : State) : State := if s.ppu.onPixel then s.mapPpu Ppu.spriteShift else s

/-- The stages of a line's dot up to the scroll updates. -/
def scrolled (s : State) : State := (backgroundFetch (clearStage s)).mapPpu Ppu.scrollUpdates

theorem lineWork_eq_stages (s : State) : lineWork s =
    slotStage ((evaluateStage (pixelStage (spriteLoads (scrolled s)))).mapPpu Ppu.backgroundShift) := rfl

theorem clearStage_changes (s : State) : Changes [.vblank, .hit, .overflow] s (clearStage s) :=
  .ite (.mapPpu s.ppu.preRenderClear_changes)

theorem pixelStage_changes (s : State) : Changes [.hit, .frame] s (pixelStage s) :=
  .ite (outputPixel_changes s)

theorem evaluateStage_changes (s : State) : Changes [.staged, .overflow] s (evaluateStage s) :=
  .ite (.mapPpu s.ppu.spriteEvaluate_changes)

theorem slotStage_changes (s : State) : Changes [.active] s (slotStage s) :=
  .ite (.mapPpu s.ppu.spriteShift_changes)

/-! ### The background fetch by its phase (R217-R219) -/

section phases

variable {s : State} (hf : s.ppu.onFetchDot = true)

include hf

theorem backgroundFetch_tile (h : (s.ppu.dot - 1) % 8 = 0) : backgroundFetch s = s.mapPpu fun p =>
    { p.reloadShifters with bgNextTileId := ppuRead (nametableAddr p.v) s } := by
  simp only [backgroundFetch, hf, h, if_true]

theorem backgroundFetch_attribute (h : (s.ppu.dot - 1) % 8 = 2) : backgroundFetch s = s.mapPpu fun p =>
    { p with bgNextAttr := attributeBits p.v (ppuRead (attributeAddr p.v) s) } := by
  simp only [backgroundFetch, hf, h, if_true]

theorem backgroundFetch_low (h : (s.ppu.dot - 1) % 8 = 4) : backgroundFetch s = s.mapPpu fun p =>
    { p with bgNextLo := ppuRead (p.patternAddr 0#16) s } := by
  simp only [backgroundFetch, hf, h, if_true]

theorem backgroundFetch_high (h : (s.ppu.dot - 1) % 8 = 6) : backgroundFetch s = s.mapPpu fun p =>
    { p with bgNextHi := ppuRead (p.patternAddr 8#16) s } := by
  simp only [backgroundFetch, hf, h, if_true]

theorem backgroundFetch_incX (h : (s.ppu.dot - 1) % 8 = 7) : backgroundFetch s =
    if s.ppu.rendering then s.mapPpu fun p => { p with v := incX p.v } else s := by
  simp only [backgroundFetch, hf, h, if_true]

theorem backgroundFetch_pause (h : (s.ppu.dot - 1) % 8 ∈ [1, 3, 5]) : backgroundFetch s = s := by
  simp only [List.mem_cons, List.not_mem_nil, or_false] at h
  obtain h | h | h := h <;> simp only [backgroundFetch, hf, h, if_true]

end phases

theorem backgroundFetch_of_not_onFetchDot {s : State} (hf : ¬ s.ppu.onFetchDot = true) :
    backgroundFetch s = s := if_neg hf

/-- The clear is made on a dot of phase 0, whose fetch looks at nothing that it changes. -/
theorem backgroundFetch_preRenderClear {s : State} (h : s.ppu.dot = 1) :
    backgroundFetch (s.mapPpu Ppu.preRenderClear) = (backgroundFetch s).mapPpu Ppu.preRenderClear := by
  have hf : s.ppu.onFetchDot = true := by simp [Ppu.onFetchDot, h]
  have hphase : (s.ppu.dot - 1) % 8 = 0 := by rw [h]
  rw [backgroundFetch_tile hf hphase, backgroundFetch_tile (s := s.mapPpu Ppu.preRenderClear) hf hphase]
  cases hr : s.ppu.rendering
  · have hr' : s.ppu.preRenderClear.rendering = false := hr
    simp only [State.mapPpu, Ppu.reloadShifters_off hr, Ppu.reloadShifters_off hr']
    rfl
  · have hr' : s.ppu.preRenderClear.rendering = true := hr
    simp only [State.mapPpu, Ppu.reloadShifters_on hr, Ppu.reloadShifters_on hr']
    rfl

theorem backgroundFetch_clearStage (s : State) :
    backgroundFetch (clearStage s) = clearStage (backgroundFetch s) := by
  obtain ⟨hline, hdot, -⟩ := Ppu.counters_eq_iff.1 (backgroundFetch_changes s).counters
  unfold clearStage Ppu.preRender
  rw [hline, hdot]
  split
  · rename_i h
    exact backgroundFetch_preRenderClear h.2
  · rfl

theorem scrolled_changes_fetched (s : State) :
    Changes [.vblank, .hit, .overflow, .v] (backgroundFetch s) (scrolled s) := by
  unfold scrolled
  rw [backgroundFetch_clearStage]
  exact (clearStage_changes _).trans (.mapPpu (Ppu.scrollUpdates_changes _))

theorem scrolled_changes (s : State) :
    Changes [.v, .latches, .shifters, .vblank, .hit, .overflow, .v] s (scrolled s) :=
  (backgroundFetch_changes s).trans (scrolled_changes_fetched s)

/-- The stages after the scroll updates write neither `v` nor the latches. -/
theorem lineWork_changes_scrolled (s : State) :
    Changes [.staged, .active, .hit, .frame, .staged, .overflow, .shifters, .active] (scrolled s) (lineWork s) :=
  (((spriteLoads_changes _).trans (pixelStage_changes _)).trans (evaluateStage_changes _)).trans
    (.trans (.mapPpu (Ppu.backgroundShift_changes _)) (slotStage_changes _))

theorem lineWork_changes (s : State) : Changes [.v, .latches, .shifters, .vblank, .hit, .overflow, .v, .staged,
    .active, .hit, .frame, .staged, .overflow, .shifters, .active] s (lineWork s) :=
  (scrolled_changes s).trans (lineWork_changes_scrolled s)

/-! ### The conditions of a dot -/

theorem Ppu.onFetchDot_iff (p : Ppu) : p.onFetchDot = true ↔ fetchDot p := by
  simp only [onFetchDot, Bool.or_eq_true, Bool.and_eq_true, decide_eq_true_eq]

theorem Ppu.onPixel_iff (p : Ppu) : p.onPixel = true ↔ pixelDot p := by
  simp only [onPixel, visible, Bool.and_eq_true, decide_eq_true_eq, and_assoc]

theorem Ppu.visible_iff (p : Ppu) : p.visible = true ↔ p.scanline ≤ 239 := decide_eq_true_iff

theorem Ppu.preRender_iff (p : Ppu) : p.preRender = true ↔ p.scanline = 261 := beq_iff_eq

theorem Ppu.rendering_congr {p q : Ppu} (h : q.regs = p.regs) : q.rendering = p.rendering := by
  obtain ⟨-, hmask, -⟩ := regs_eq_iff.1 h
  simp only [rendering, showBg, showSprites, hmask]

/-! ### The parts that a line's dot makes -/

theorem lineWork_latches (s : State) : latches (lineWork s).ppu = latches (backgroundFetch s).ppu :=
  ((scrolled_changes_fetched s).trans (lineWork_changes_scrolled s)).same .latches (by decide)

theorem Ppu.scrollUpdates_off {p : Ppu} (h : p.rendering = false) : p.scrollUpdates = p := by
  simp [scrollUpdates, h]

/-- At most one of the updates of `v` has its dot (R214-R216). -/
theorem Ppu.scrollUpdates_v {p : Ppu} (h : p.rendering = true) : p.scrollUpdates.v =
    if p.dot = 256 then incY p.v else if p.dot = 257 then copyH p.v p.t
    else if p.scanline = 261 ∧ 280 ≤ p.dot ∧ p.dot ≤ 304 then copyV p.v p.t else p.v := by
  simp only [scrollUpdates, if_pos h, preRender_iff]
  by_cases h256 : p.dot = 256
  · simp [h256]
  by_cases h257 : p.dot = 257
  · simp [h257]
  · simp only [if_neg h256, if_neg h257]

theorem Ppu.scrollUpdates_v_congr {p q : Ppu} (hr : q.regs = p.regs) (hc : q.counters = p.counters)
    (hv : q.v = p.v) : q.scrollUpdates.v = p.scrollUpdates.v := by
  obtain ⟨-, -, ht, -⟩ := regs_eq_iff.1 hr
  obtain ⟨hline, hdot, -⟩ := counters_eq_iff.1 hc
  cases h : p.rendering
  · rw [scrollUpdates_off h, scrollUpdates_off ((rendering_congr hr).trans h), hv]
  · rw [scrollUpdates_v h, scrollUpdates_v ((rendering_congr hr).trans h), hline, hdot, hv, ht]

theorem lineWork_v (s : State) : (lineWork s).ppu.v = (backgroundFetch s).ppu.scrollUpdates.v := by
  have hclear := clearStage_changes (backgroundFetch s)
  refine ((lineWork_changes_scrolled s).same .v (by decide)).trans ?_
  unfold scrolled
  rw [backgroundFetch_clearStage]
  exact Ppu.scrollUpdates_v_congr hclear.regs hclear.counters (hclear.same .v (by decide))

theorem Ppu.shifters_backgroundShift (p : Ppu) : shifters p.backgroundShift =
    if fetchDot p ∧ p.mask.getLsbD 3 = true then
      (p.shPatLo <<< 1, p.shPatHi <<< 1, p.shAttrLo <<< 1, p.shAttrHi <<< 1)
    else shifters p := by
  unfold backgroundShift
  simp only [Bool.and_eq_true, onFetchDot_iff, showBg]
  split <;> rfl

theorem Ppu.shifters_backgroundShift_congr {p q : Ppu} (hr : q.regs = p.regs) (hc : q.counters = p.counters)
    (hs : shifters q = shifters p) : shifters q.backgroundShift = shifters p.backgroundShift := by
  obtain ⟨-, hmask, -⟩ := regs_eq_iff.1 hr
  obtain ⟨-, hdot, -⟩ := counters_eq_iff.1 hc
  have ⟨hpl, hph, hal, hah⟩ : q.shPatLo = p.shPatLo ∧ q.shPatHi = p.shPatHi ∧ q.shAttrLo = p.shAttrLo ∧
      q.shAttrHi = p.shAttrHi := by simpa only [shifters, Prod.mk.injEq] using hs
  rw [shifters_backgroundShift, shifters_backgroundShift, hs]
  simp only [fetchDot, hmask, hdot, hpl, hph, hal, hah]

theorem lineWork_shifters (s : State) :
    shifters (lineWork s).ppu = shifters (backgroundFetch s).ppu.backgroundShift := by
  have h := (scrolled_changes_fetched s).trans
    (((spriteLoads_changes (scrolled s)).trans (pixelStage_changes _)).trans (evaluateStage_changes _))
  exact ((slotStage_changes _).same .shifters (by decide)).trans
    (Ppu.shifters_backgroundShift_congr h.regs h.counters (h.same .shifters (by decide)))

/-! ### Sprites: the stages look at the registers, the counters and their own parts alone -/

theorem fetchSlot_congr {s t : State} (hcart : t.cart = s.cart) (hr : t.ppu.regs = s.ppu.regs)
    (hc : t.ppu.counters = s.ppu.counters) (hn : t.ppu.curCount = s.ppu.curCount) (i : Nat)
    (slot : SpriteSlot) : fetchSlot i slot t = fetchSlot i slot s := by
  obtain ⟨hctrl, hmask, -, -, hnt, hpal⟩ := Ppu.regs_eq_iff.1 hr
  obtain ⟨hline, -⟩ := Ppu.counters_eq_iff.1 hc
  have haddr : t.ppu.spriteAddr slot.sprite = s.ppu.spriteAddr slot.sprite := by
    unfold Ppu.spriteAddr Ppu.spriteSize Ppu.spriteTable
    rw [hctrl, hline]
  simp only [fetchSlot, spriteByte, hn, haddr, ppuRead_congr hcart hnt hpal hmask]

theorem active_spriteFetch_congr {s t : State} (hcart : t.cart = s.cart) (hr : t.ppu.regs = s.ppu.regs)
    (hc : t.ppu.counters = s.ppu.counters) (ha : active t.ppu = active s.ppu) (i : Nat) :
    active (spriteFetch i t).ppu = active (spriteFetch i s).ppu := by
  simp only [active, Prod.mk.injEq] at ha
  obtain ⟨hslots, hcount, hzero⟩ := ha
  simp only [active, spriteFetch, State.mapPpu_ppu, hslots, hcount, hzero,
    fetchSlot_congr hcart hr hc hcount]

/-- The dots of the transfer and of the fetches (R207): slot 0 is fetched at the dot of the transfer. -/
theorem spriteLoads_eq (s : State) : spriteLoads s =
    if s.ppu.rendering = true ∧ s.ppu.dot = 257 then spriteFetch 0 (s.mapPpu Ppu.spriteTransfer)
    else if s.ppu.rendering = true ∧ s.ppu.dot ∈ [265, 273, 281, 289, 297, 305, 313] then
      spriteFetch ((s.ppu.dot - 257) / 8) s
    else s := by
  have hdots : (257 ≤ s.ppu.dot ∧ s.ppu.dot ≤ 320 ∧ (s.ppu.dot - 257) % 8 = 0) ↔
      s.ppu.dot = 257 ∨ s.ppu.dot ∈ [265, 273, 281, 289, 297, 305, 313] := by
    simp only [List.mem_cons, List.not_mem_nil, or_false]
    omega
  simp only [spriteLoads, hdots]
  by_cases hr : s.ppu.rendering = true
  · by_cases h257 : s.ppu.dot = 257
    · simp [hr, h257]
    · simp only [hr, h257, if_true, if_false, false_or, and_false, true_and]
  · simp only [hr]
    rfl

/-- The loads come after the dots of evaluation and of pixels. -/
theorem spriteLoads_of_dot_le {s : State} (h : s.ppu.dot ≤ 256) : spriteLoads s = s := by
  have htransfer : s.ppu.dot ≠ 257 := by omega
  have hfetch : s.ppu.dot ∉ [265, 273, 281, 289, 297, 305, 313] := by
    simp only [List.mem_cons, List.not_mem_nil, or_false]
    omega
  rw [spriteLoads_eq, if_neg (mt And.right htransfer), if_neg (mt And.right hfetch)]

theorem staged_spriteLoads (s : State) : staged (spriteLoads s).ppu =
    if s.ppu.rendering = true ∧ s.ppu.dot = 257 then (s.ppu.nextSprites, 0, false) else staged s.ppu := by
  rw [spriteLoads_eq]
  split
  · rfl
  · split <;> rfl

theorem active_spriteLoads_congr {s t : State} (hcart : t.cart = s.cart) (hr : t.ppu.regs = s.ppu.regs)
    (hc : t.ppu.counters = s.ppu.counters) (hs : staged t.ppu = staged s.ppu)
    (ha : active t.ppu = active s.ppu) : active (spriteLoads t).ppu = active (spriteLoads s).ppu := by
  obtain ⟨-, hdot, -⟩ := Ppu.counters_eq_iff.1 hc
  have htransfer : active t.ppu.spriteTransfer = active s.ppu.spriteTransfer := by
    simp only [active, staged, Prod.mk.injEq] at ha hs
    simp only [active, Ppu.spriteTransfer, ha.1, hs]
  simp only [spriteLoads_eq, Ppu.rendering_congr hr, hdot]
  split
  · exact active_spriteFetch_congr (s := s.mapPpu Ppu.spriteTransfer) (t := t.mapPpu Ppu.spriteTransfer)
      hcart hr hc htransfer 0
  split
  · exact active_spriteFetch_congr hcart hr hc ha _
  · exact ha

theorem Ppu.active_spriteShift (p : Ppu) : active p.spriteShift =
    if p.mask.getLsbD 4 = true then (shiftSlots p.curCount p.curSprites, p.curCount, p.curSprite0)
    else active p := by
  unfold spriteShift showSprites
  split <;> rfl

theorem Ppu.active_spriteShift_congr {p q : Ppu} (hr : q.regs = p.regs) (ha : active q = active p) :
    active q.spriteShift = active p.spriteShift := by
  obtain ⟨-, hmask, -⟩ := regs_eq_iff.1 hr
  rw [active_spriteShift, active_spriteShift, ha, hmask]
  simp only [active, Prod.mk.injEq] at ha
  simp only [ha]

/-- The scan's result does not depend on the parts that it neither reads nor writes. -/
theorem Ppu.scanOam_changes {p q : Ppu} {parts : List Part} (h : ChangesOnly parts p q)
    (hparts : ∀ x ∈ [Part.regs, .oam, .counters, .staged, .overflow], x ∉ parts) (k n : Nat) :
    ChangesOnly parts (scanOam k n p) (scanOam k n q) := by
  simp only [List.forall_mem_cons, List.not_mem_nil, false_implies, implies_true, and_true] at hparts
  obtain ⟨hregs, hoam, hcounters, hstaged, hoverflow⟩ := hparts
  induction k generalizing n p q with
  | zero => exact h
  | succ k ih =>
    obtain ⟨hctrl, -⟩ := regs_eq_iff.1 (h _ hregs)
    obtain ⟨hline, -⟩ := counters_eq_iff.1 (h _ hcounters)
    have ho : q.oam = p.oam := h _ hoam
    have hs : staged q = staged p := h _ hstaged
    simp only [staged, Prod.mk.injEq] at hs
    obtain ⟨hnext, hcount, hzero⟩ := hs
    have hin (y : Byte) : q.inRange y = p.inRange y := by
      unfold inRange spriteHeight spriteSize
      rw [hctrl, hline]
    simp only [scanOam, oamSprite, ho, hin, hnext, hcount, hzero]
    split
    · split
      · refine ih (fun x hx => ?_) _
        cases x with
        | staged | oam => rfl
        | _ => exact h _ hx
      · intro x hx
        cases x with
        | overflow | staged | oam => rfl
        | _ => exact h _ hx
    · exact ih h _

theorem Ppu.spriteEvaluate_congr {p q : Ppu} {parts : List Part} (h : ChangesOnly parts p q)
    (hparts : ∀ x ∈ [Part.regs, .oam, .counters, .staged, .overflow], x ∉ parts) :
    ChangesOnly parts p.spriteEvaluate q.spriteEvaluate := by
  refine scanOam_changes (fun x hx => ?_) hparts 64 0
  cases x with
  | staged =>
    have hs : staged q = staged p := h _ hx
    simp only [staged, Prod.mk.injEq] at hs
    simp only [Part.Same, staged, hs.1]
  | _ => exact h _ hx

/-! ### The sprites of a line's dot -/

/-- The stages before the sprite loads, and those after them up to the sprite shift. -/
theorem active_lineWork (s : State) : active (lineWork s).ppu =
    if pixelDot s.ppu then active s.ppu.spriteShift else active (spriteLoads s).ppu := by
  have h := scrolled_changes s
  have hloads : active (spriteLoads (scrolled s)).ppu = active (spriteLoads s).ppu :=
    active_spriteLoads_congr h.cart h.regs h.counters (h.same .staged (by decide)) (h.same .active (by decide))
  have hlate := ((pixelStage_changes (spriteLoads (scrolled s))).trans (evaluateStage_changes _)).trans
    (.mapPpu (Ppu.backgroundShift_changes _))
  have hlater := h.trans ((spriteLoads_changes (scrolled s)).trans hlate)
  rw [lineWork_eq_stages, slotStage]
  generalize (evaluateStage (pixelStage (spriteLoads (scrolled s)))).mapPpu Ppu.backgroundShift = t at hlate hlater ⊢
  have hact : active t.ppu = active (spriteLoads s).ppu := (hlate.same .active (by decide)).trans hloads
  obtain ⟨hline, hdot, -⟩ := Ppu.counters_eq_iff.1 hlater.counters
  have hpix : t.ppu.onPixel = true ↔ pixelDot s.ppu := by
    rw [Ppu.onPixel_iff, pixelDot, pixelDot, hline, hdot]
  simp only [hpix]
  split
  · rename_i hp
    rw [spriteLoads_of_dot_le hp.2.2] at hact
    exact Ppu.active_spriteShift_congr hlater.regs hact
  · exact hact

/-! ### The flags, the evaluation and the pixel of a line's dot -/

theorem clearStage_eq (s : State) : clearStage s =
    if s.ppu.scanline = 261 ∧ s.ppu.dot = 1 then s.mapPpu Ppu.preRenderClear else s := by
  simp only [clearStage, Ppu.preRender_iff]

theorem clearStage_of_visible {s : State} (h : s.ppu.scanline ≤ 239) : clearStage s = s := by
  have hline : s.ppu.scanline ≠ 261 := by omega
  rw [clearStage_eq, if_neg (mt And.left hline)]

theorem scrolled_changes_cleared (s : State) : Changes [.v, .latches, .shifters, .v] (clearStage s) (scrolled s) :=
  (backgroundFetch_changes _).trans (.mapPpu (Ppu.scrollUpdates_changes _))

theorem lineWork_changes_cleared (s : State) : Changes [.v, .latches, .shifters, .v, .staged, .active, .hit, .frame,
    .staged, .overflow, .shifters, .active] (clearStage s) (lineWork s) :=
  (scrolled_changes_cleared s).trans (lineWork_changes_scrolled s)

theorem vblankFlags_lineWork (s : State) : (lineWork s).ppu.vblankFlags = (clearStage s).ppu.vblankFlags :=
  (lineWork_changes_cleared s).same .vblank (by decide)

/-- On a visible line up to dot 256 the pixel and the evaluation follow the scroll updates directly. -/
theorem lineWork_of_visible {s : State} (hline : s.ppu.scanline ≤ 239) (hdot : s.ppu.dot ≤ 256) :
    Changes [.v, .latches, .shifters, .v] s (scrolled s) ∧ lineWork s =
      slotStage ((evaluateStage (pixelStage (scrolled s))).mapPpu Ppu.backgroundShift) := by
  have h := scrolled_changes_cleared s
  rw [clearStage_of_visible hline] at h
  obtain ⟨-, hd, -⟩ := Ppu.counters_eq_iff.1 h.counters
  exact ⟨h, by rw [lineWork_eq_stages, spriteLoads_of_dot_le (hd.trans_le hdot)]⟩

/-- The dot of the evaluation (R207, R222). -/
abbrev evaluationDot (p : Ppu) : Prop := p.rendering = true ∧ p.scanline ≤ 239 ∧ p.dot = 256

theorem evaluationDot_congr {p q : Ppu} (hr : q.regs = p.regs) (hc : q.counters = p.counters) :
    evaluationDot q ↔ evaluationDot p := by
  obtain ⟨hline, hdot, -⟩ := Ppu.counters_eq_iff.1 hc
  rw [evaluationDot, evaluationDot, Ppu.rendering_congr hr, hline, hdot]

theorem pixelDot_congr {p q : Ppu} (hc : q.counters = p.counters) : pixelDot q ↔ pixelDot p := by
  obtain ⟨hline, hdot, -⟩ := Ppu.counters_eq_iff.1 hc
  rw [pixelDot, pixelDot, hline, hdot]

theorem evaluateStage_eq (s : State) :
    evaluateStage s = if evaluationDot s.ppu then s.mapPpu Ppu.spriteEvaluate else s := by
  simp only [evaluateStage, evaluationDot, Ppu.visible_iff, and_comm (b := s.ppu.rendering = true), and_left_comm]

theorem pixelStage_eq (s : State) : pixelStage s = if pixelDot s.ppu then outputPixel s else s := by
  simp only [pixelStage, Ppu.onPixel_iff]

theorem lineWork_evaluated {s : State} (h : evaluationDot s.ppu) :
    staged (lineWork s).ppu = staged s.ppu.spriteEvaluate ∧
      (lineWork s).ppu.spriteOverflow = s.ppu.spriteEvaluate.spriteOverflow := by
  obtain ⟨hscroll, e⟩ := lineWork_of_visible h.2.1 h.2.2.le
  have hpixel := hscroll.trans (pixelStage_changes (scrolled s))
  have hcond := (evaluationDot_congr hpixel.regs hpixel.counters).2 h
  have heval := Ppu.spriteEvaluate_congr hpixel.same (by decide)
  have hlate := (Changes.mapPpu (Ppu.backgroundShift_changes
    ((pixelStage (scrolled s)).mapPpu Ppu.spriteEvaluate).ppu)).trans (slotStage_changes _)
  rw [e, evaluateStage_eq, if_pos hcond]
  have hall := heval.trans hlate.same
  exact ⟨hall .staged (by decide), hall .overflow (by decide)⟩

theorem lineWork_unevaluated {s : State} (h : ¬ evaluationDot s.ppu) :
    staged (lineWork s).ppu = staged (spriteLoads s).ppu ∧
      (lineWork s).ppu.spriteOverflow = (clearStage s).ppu.spriteOverflow := by
  have hscroll := scrolled_changes s
  have hpixel := (spriteLoads_changes (scrolled s)).trans (pixelStage_changes _)
  have hbefore := hscroll.trans hpixel
  have hcond := mt (evaluationDot_congr hbefore.regs hbefore.counters).1 h
  have hlate := (pixelStage_changes (spriteLoads (scrolled s))).trans
    (.trans (.mapPpu (Ppu.backgroundShift_changes _)) (slotStage_changes _))
  rw [lineWork_eq_stages, evaluateStage_eq, if_neg hcond]
  refine ⟨(hlate.same .staged (by decide)).trans ?_, ?_⟩
  · obtain ⟨-, hdot, -⟩ := Ppu.counters_eq_iff.1 hscroll.counters
    have hs : staged (scrolled s).ppu = staged s.ppu := hscroll.same .staged (by decide)
    have hnext := congrArg Prod.fst hs
    simp only [staged_spriteLoads, Ppu.rendering_congr hscroll.regs, hdot, hs]
    simp only [staged] at hnext
    rw [hnext]
  · exact (((scrolled_changes_cleared s).trans (spriteLoads_changes _)).trans hlate).same .overflow (by decide)

/-! ### The pixel looks at the high bytes of the shifters -/

/-- The bytes of the shifters that a pixel can come from: fine X is below 8 (R226). -/
def shifterHighs (p : Ppu) : Byte × Byte × Byte × Byte := (hi p.shPatLo, hi p.shPatHi, hi p.shAttrLo, hi p.shAttrHi)

theorem shifterHighs_backgroundFetch (s : State) : shifterHighs (backgroundFetch s).ppu = shifterHighs s.ppu := by
  obtain ⟨v, id, at_, lo_, hi_, a, b, c, d, e, ha, hb, hc, hd, -⟩ := backgroundFetch_fields s
  rw [e]
  simp only [shifterHighs, ha, hb, hc, hd]

theorem shifterHighs_scrolled (s : State) : shifterHighs (scrolled s).ppu = shifterHighs s.ppu := by
  have h : shifters (scrolled s).ppu = shifters (backgroundFetch s).ppu :=
    (scrolled_changes_fetched s).same .shifters (by decide)
  simp only [shifters, Prod.mk.injEq] at h
  rw [← shifterHighs_backgroundFetch s]
  simp only [shifterHighs, h]

theorem getLsbD_of_hi_eq {a b : Addr} (h : hi a = hi b) (k : BitVec 3) :
    a.getLsbD (15 - k.toNat) = b.getLsbD (15 - k.toNat) := by
  have hbit := congrArg (BitVec.getLsbD · (7 - k.toNat)) h
  have hk : 8 + (7 - k.toNat) = 15 - k.toNat := by omega
  simp only [hi, BitVec.getLsbD_setWidth, BitVec.getLsbD_ushiftRight, hk] at hbit
  have hlt : 7 - k.toNat < 8 := by omega
  simpa [hlt] using hbit

theorem Ppu.backgroundPixel_congr {p q : Ppu} (hr : q.regs = p.regs) (hc : q.counters = p.counters)
    (hs : shifterHighs q = shifterHighs p) (clip : Bool) : q.backgroundPixel clip = p.backgroundPixel clip := by
  obtain ⟨-, hmask, -, hfine, -⟩ := regs_eq_iff.1 hr
  obtain ⟨-, hdot, -⟩ := counters_eq_iff.1 hc
  simp only [shifterHighs, Prod.mk.injEq] at hs
  obtain ⟨hpl, hph, hal, hah⟩ := hs
  unfold backgroundPixel showBg showBgLeft column
  rw [hmask, hdot, hfine]
  simp only [getLsbD_of_hi_eq hpl, getLsbD_of_hi_eq hph, getLsbD_of_hi_eq hal, getLsbD_of_hi_eq hah]

theorem Ppu.spritePixel_congr {p q : Ppu} (hr : q.regs = p.regs) (hc : q.counters = p.counters)
    (ha : active q = active p) (clip : Bool) : q.spritePixel clip = p.spritePixel clip := by
  obtain ⟨-, hmask, -⟩ := regs_eq_iff.1 hr
  obtain ⟨-, hdot, -⟩ := counters_eq_iff.1 hc
  simp only [active, Prod.mk.injEq] at ha
  obtain ⟨hslots, hcount, -⟩ := ha
  unfold spritePixel showSprites showSpritesLeft column
  rw [hmask, hdot, hslots, hcount]

theorem Ppu.hitsSprite0_congr {p q : Ppu} (hc : q.counters = p.counters) (ha : active q = active p)
    (bg : BitVec 2 × BitVec 2) (fg : Option SpritePixel) : q.hitsSprite0 bg fg = p.hitsSprite0 bg fg := by
  obtain ⟨-, hdot, -⟩ := counters_eq_iff.1 hc
  have hzero : q.curSprite0 = p.curSprite0 := congrArg (·.2.2) ha
  unfold hitsSprite0 column
  rw [hdot, hzero]

theorem pixelColour_congr {s t : State} (hcart : t.cart = s.cart) (hr : t.ppu.regs = s.ppu.regs)
    (px : BitVec 2) (pal : BitVec 3) : pixelColour px pal t = pixelColour px pal s := by
  obtain ⟨-, hmask, -, -, hnt, hpal⟩ := Ppu.regs_eq_iff.1 hr
  simp only [pixelColour, ppuRead_congr hcart hnt hpal hmask, hmask]

/-- The pixel of a state that differs in nothing that a pixel looks at. -/
theorem outputPixel_congr {s t : State} {parts : List Ppu.Part} (h : Changes parts s t)
    (hparts : ∀ x ∈ [Ppu.Part.regs, .counters, .active, .hit, .frame], x ∉ parts)
    (hs : shifterHighs t.ppu = shifterHighs s.ppu) :
    (outputPixel t).ppu.frame = (outputPixel s).ppu.frame ∧
      (outputPixel t).ppu.sprite0Hit = (outputPixel s).ppu.sprite0Hit := by
  simp only [List.forall_mem_cons, List.not_mem_nil, false_implies, implies_true, and_true] at hparts
  obtain ⟨hregs, hcounters, hactive, hhit, hframe⟩ := hparts
  have hr := h.regs hregs
  have hc := h.counters hcounters
  have ha : active t.ppu = active s.ppu := h.same _ hactive
  have hh : t.ppu.sprite0Hit = s.ppu.sprite0Hit := h.same _ hhit
  have hf : t.ppu.frame = s.ppu.frame := h.same _ hframe
  obtain ⟨hline, hdot, -⟩ := Ppu.counters_eq_iff.1 hc
  simp only [outputPixel, State.mapPpu_ppu, h.launch, Ppu.backgroundPixel_congr hr hc hs,
    Ppu.spritePixel_congr hr hc ha, Ppu.hitsSprite0_congr hc ha, pixelColour_congr h.cart hr, hh, hf, hline,
    Ppu.column, hdot, and_self]

theorem lineWork_pixel {s : State} (h : pixelDot s.ppu) :
    (lineWork s).ppu.frame = (outputPixel s).ppu.frame ∧
      (lineWork s).ppu.sprite0Hit = (outputPixel s).ppu.sprite0Hit := by
  obtain ⟨hscroll, e⟩ := lineWork_of_visible h.1 h.2.2
  obtain ⟨hframe, hhit⟩ := outputPixel_congr hscroll (by decide) (shifterHighs_scrolled s)
  have hlate := ((evaluateStage_changes (outputPixel (scrolled s))).trans
    (.mapPpu (Ppu.backgroundShift_changes _))).trans (slotStage_changes _)
  rw [e, pixelStage_eq, if_pos ((pixelDot_congr hscroll.counters).2 h)]
  exact ⟨(hlate.same .frame (by decide)).trans hframe, (hlate.same .hit (by decide)).trans hhit⟩

theorem lineWork_noPixel {s : State} (h : ¬ pixelDot s.ppu) :
    (lineWork s).ppu.frame = s.ppu.frame ∧ (lineWork s).ppu.sprite0Hit = (clearStage s).ppu.sprite0Hit := by
  have hbefore := (scrolled_changes_cleared s).trans (spriteLoads_changes _)
  have hall := (clearStage_changes s).trans hbefore
  have hlate := ((evaluateStage_changes (spriteLoads (scrolled s))).trans
    (.mapPpu (Ppu.backgroundShift_changes _))).trans (slotStage_changes _)
  rw [lineWork_eq_stages, pixelStage_eq, if_neg (mt (pixelDot_congr hall.counters).1 h)]
  exact ⟨(hall.trans hlate).same .frame (by decide), (hbefore.trans hlate).same .hit (by decide)⟩

end Sys2Proof.Machine

/-! SUPPORT. What a PPU clock does to each part of the PPU: the counters and the flags of the frame and of vblank
(R208-R211), which every clock changes in the same way whether or not a copy is waiting. -/

namespace Sys2Proof.Machine

open Sys2Proof.Claims

/-! ### The dot of any line -/

theorem dotWork_rendered {s : State} (h : renderedLine s.ppu) : dotWork s = lineWork s := by
  have hline : (s.ppu.visible || s.ppu.preRender) = true := by
    rw [Bool.or_eq_true, Ppu.visible_iff, Ppu.preRender_iff]
    exact h
  rw [dotWork, if_pos hline]

theorem dotWork_unrendered {s : State} (h : ¬ renderedLine s.ppu) :
    dotWork s = if s.ppu.scanline = 241 ∧ s.ppu.dot = 1 then vblankStart s else s := by
  have hline : ¬ (s.ppu.visible || s.ppu.preRender) = true := by
    rw [Bool.or_eq_true, Ppu.visible_iff, Ppu.preRender_iff]
    exact h
  rw [dotWork, if_neg hline]

theorem dotWork_changes_unrendered {s : State} (h : ¬ renderedLine s.ppu) :
    Ppu.ChangesOnly [.vblank] s.ppu (dotWork s).ppu := by
  rw [dotWork_unrendered h]
  split
  · intro x hx
    cases x <;> simp at hx <;> rfl
  · exact .refl s.ppu

/-- A dot's work changes neither the registers nor OAM nor the counters. -/
theorem dotWork_changes (s : State) : Ppu.ChangesOnly [.vblank, .v, .latches, .shifters, .staged, .overflow,
    .active, .hit, .frame] s.ppu (dotWork s).ppu := by
  by_cases h : renderedLine s.ppu
  · rw [dotWork_rendered h]
    exact (lineWork_changes s).same.mono (by decide)
  · exact (dotWork_changes_unrendered h).mono (by decide)

/-! ### The clock before the dot's work -/

/-- The state on whose counters a clock works: a copy made if one waits, a dot passed over if it is one to skip. -/
def clockStart (s : State) : State := (dmaDrain s).mapPpu Ppu.oddSkip

theorem ppuClock_eq (s : State) : ppuClock s = (dotWork (clockStart s)).mapPpu Ppu.advance := rfl

theorem clockStart_changes (s : State) :
    Ppu.ChangesOnly [.oam, .vblank, .v, .counters] s.ppu (clockStart s).ppu :=
  (dmaDrain_changes s).trans (Ppu.oddSkip_changes _)

theorem clockStart_of_ownDot {s : State} (h : ownDot s) : clockStart s = s := by
  unfold clockStart
  rw [dmaDrain_idle h.1]
  exact congrArg ({ s with ppu := · }) (if_neg h.2)

theorem Ppu.counters_oddSkip (p : Ppu) : p.oddSkip.counters =
    if skipsDot p then (p.scanline, 1, p.oddFrame, p.frameReady) else p.counters := by
  unfold oddSkip skipsDot
  split <;> rfl

theorem counters_clockStart (s : State) : (clockStart s).ppu.counters = s.ppu.oddSkip.counters := by
  have h := dmaDrain_changes s
  have hc : (dmaDrain s).ppu.counters = s.ppu.counters := h .counters (by decide)
  obtain ⟨hline, hdot, hodd, hready⟩ := Ppu.counters_eq_iff.1 hc
  show (dmaDrain s).ppu.oddSkip.counters = _
  simp only [Ppu.counters_oddSkip, skipsDot, hc, hline, hdot, hodd, hready, Ppu.rendering_congr (h .regs (by decide))]

theorem Ppu.counters_advance (p : Ppu) : p.advance.counters =
    if p.dot + 1 = 341 then
      if p.scanline + 1 = 262 then (0, 0, !p.oddFrame, true) else (p.scanline + 1, 0, p.oddFrame, p.frameReady)
    else (p.scanline, p.dot + 1, p.oddFrame, p.frameReady) := by
  unfold advance
  split
  · split <;> rfl
  · rfl

/-- The counters after a clock do not depend on the dot's work (R208, R209). -/
theorem counters_ppuClock (s : State) : (ppuClock s).ppu.counters = s.ppu.oddSkip.advance.counters := by
  have h : (dotWork (clockStart s)).ppu.counters = s.ppu.oddSkip.counters :=
    (dotWork_changes _ .counters (by decide)).trans (counters_clockStart s)
  obtain ⟨hline, hdot, hodd, hready⟩ := Ppu.counters_eq_iff.1 h
  rw [ppuClock_eq, State.mapPpu_ppu]
  simp only [Ppu.counters_advance, hline, hdot, hodd, hready]

theorem regs_ppuClock (s : State) : (ppuClock s).ppu.regs = s.ppu.regs :=
  ((clockStart_changes s).trans ((dotWork_changes _).trans (Ppu.advance_changes _))) .regs (by decide)

theorem rendering_ppuClock (s : State) : (ppuClock s).ppu.rendering = s.ppu.rendering :=
  Ppu.rendering_congr (regs_ppuClock s)

/-! ### The frame (R208, R209) -/

theorem Ppu.oddSkip_of_not_skipsDot {p : Ppu} (h : ¬ skipsDot p) : p.oddSkip = p := if_neg h

theorem Ppu.oddSkip_of_skipsDot {p : Ppu} (h : skipsDot p) : p.oddSkip = { p with dot := 1 } := if_pos h

theorem framePosition_advance {p : Ppu} (h : p.InRanges) :
    framePosition p.advance = (framePosition p + 1) % 89342 := by
  have hl := h.scanline
  have hd := h.dot
  unfold Ppu.advance framePosition
  split
  · split <;> simp only <;> omega
  · simp only
    omega

theorem framePosition_ppuClock {s : State} (h : s.ppu.InRanges) (hs : ¬ skipsDot s.ppu) :
    framePosition (ppuClock s).ppu = (framePosition s.ppu + 1) % 89342 := by
  have hc := counters_ppuClock s
  rw [Ppu.oddSkip_of_not_skipsDot hs] at hc
  obtain ⟨hline, hdot, -⟩ := Ppu.counters_eq_iff.1 hc
  rw [← framePosition_advance h, framePosition, framePosition, hline, hdot]

theorem framePosition_ppuClocks (n : Nat) {s : State} (h : s.ppu.InRanges) (hr : s.ppu.rendering = false) :
    framePosition (ppuClocks n s).ppu = (framePosition s.ppu + n) % 89342 := by
  induction n generalizing s with
  | zero =>
    have hl := h.scanline
    have hd := h.dot
    simp only [ppuClocks, framePosition]
    omega
  | succ n ih =>
    have hs : ¬ skipsDot s.ppu := by simp [skipsDot, hr]
    rw [ppuClocks, ih (ppuClock_inRanges s h) ((rendering_ppuClock s).trans hr), framePosition_ppuClock h hs]
    omega

/-- The clock of a dot to skip is that of the next dot. -/
theorem ppuClock_of_skipsDot {s : State} (h : skipsDot s.ppu) (hd : s.bus.oamDmaPpu = false) :
    ppuClock s = ppuClock (s.mapPpu fun p => { p with dot := 1 }) := by
  have hs : ¬ skipsDot ({ s.ppu with dot := 1 } : Ppu) := by simp [skipsDot]
  rw [ppuClock_eq, ppuClock_eq, clockStart_of_ownDot (s := s.mapPpu fun p => { p with dot := 1 }) ⟨hd, hs⟩,
    clockStart, dmaDrain_idle hd]
  exact congrArg (fun p => (dotWork { s with ppu := p }).mapPpu Ppu.advance) (Ppu.oddSkip_of_skipsDot h)

theorem Ppu.advance_frameFlags {p : Ppu} (h : ¬ (p.scanline = 261 ∧ p.dot = 340)) :
    p.advance.frameReady = p.frameReady ∧ p.advance.oddFrame = p.oddFrame := by
  unfold advance
  split
  · split
    · omega
    · exact ⟨rfl, rfl⟩
  · exact ⟨rfl, rfl⟩

/-- Settles O48: the counters after a clock are those of the skip and the advance alone, whatever the dot's
work and a waiting copy do. -/
theorem frameTiming : Obligations.FrameTiming := by
  refine ⟨fun s h hs => framePosition_ppuClock ((ppuInv_iff s).1 h) hs,
    fun n s h hr => framePosition_ppuClocks n ((ppuInv_iff s).1 h) hr,
    fun s hl hd => ?wrap, fun s h => ?inside, fun s h => ?skip⟩
  case wrap =>
    have hs : ¬ skipsDot s.ppu := by simp [skipsDot, hl]
    have hc := counters_ppuClock s
    rw [Ppu.oddSkip_of_not_skipsDot hs, Ppu.counters_advance, hl, hd] at hc
    simp only [Nat.reduceAdd, reduceIte, Ppu.counters, Prod.mk.injEq] at hc
    obtain ⟨hline, hdot, hodd, hready⟩ := hc
    exact ⟨hline, hdot, hready, hodd⟩
  case inside =>
    obtain ⟨-, -, hodd, hready⟩ := Ppu.counters_eq_iff.1 (counters_ppuClock s)
    rw [hodd, hready]
    by_cases hs : skipsDot s.ppu
    · rw [Ppu.oddSkip_of_skipsDot hs]
      exact Ppu.advance_frameFlags (by simp)
    · rw [Ppu.oddSkip_of_not_skipsDot hs]
      exact Ppu.advance_frameFlags h
  case skip =>
    have hc := counters_ppuClock s
    rw [Ppu.oddSkip_of_skipsDot h, Ppu.counters_advance] at hc
    simp only [Nat.reduceAdd, Nat.reduceEqDiff, reduceIte, Ppu.counters, Prod.mk.injEq] at hc
    obtain ⟨hline, hdot, -⟩ := hc
    exact ⟨hline.trans h.1, hdot, ppuClock_of_skipsDot h⟩

/-! ### Vblank (R210, R211, R234) -/

/-- A copy's reads can end vblank, and never start it (R57, R194). -/
theorem dmaDrain_vblank {s : State} (h : (dmaDrain s).ppu.vblank = true) : s.ppu.vblank = true := by
  have hread (a : Addr) (t : State) (ht : (busRead a t).2.ppu.vblank = true) : t.ppu.vblank = true := by
    obtain e | e | e | ⟨b, e⟩ | e := busRead_cases a t <;> rw [e] at ht
    · exact ht
    · exact absurd ht Bool.false_ne_true
    · exact ht
    · exact ht
    · exact ht
  have hcopy (k i : Nat) (t : State) (ht : (dmaBytes k i t).ppu.vblank = true) : t.ppu.vblank = true := by
    induction k generalizing i t with
    | zero => exact ht
    | succ k ih => exact hread _ t (ih (i + 1) (dmaByte i t) ht)
  cases hb : s.bus.oamDmaPpu
  · rwa [dmaDrain_idle hb] at h
  · rw [dmaDrain_copy hb] at h
    exact hcopy 256 0 s h

theorem vblankFlags_ppuClock (s : State) :
    (ppuClock s).ppu.vblankFlags = (dotWork (clockStart s)).ppu.vblankFlags :=
  Ppu.advance_changes _ .vblank (by decide)

theorem nmiSignal_clockStart (s : State) : (clockStart s).bus.nmiSignal = s.bus.nmiSignal := by
  obtain ⟨-, -, -, hbus⟩ := dmaDrain_frame s
  rw [clockStart, State.mapPpu_bus, hbus]

theorem vblankFlags_dotWork (s : State) : (dotWork s).ppu.vblankFlags =
    if s.ppu.scanline = 241 ∧ s.ppu.dot = 1 then (true, true)
    else if s.ppu.scanline = 261 ∧ s.ppu.dot = 1 then (false, false) else s.ppu.vblankFlags := by
  by_cases h : renderedLine s.ppu
  · have hline : s.ppu.scanline ≠ 241 := by omega
    rw [dotWork_rendered h, vblankFlags_lineWork, clearStage_eq, if_neg (mt And.left hline)]
    split <;> rfl
  · have hline : s.ppu.scanline ≠ 261 := fun e => h (.inr e)
    rw [dotWork_unrendered h, if_neg (mt And.left hline)]
    split <;> rfl

theorem nmiSignal_dotWork (s : State) : (dotWork s).bus.nmiSignal =
    if s.ppu.scanline = 241 ∧ s.ppu.dot = 1 then s.bus.nmiSignal || s.ppu.ctrl.getLsbD 7
    else s.bus.nmiSignal := by
  by_cases h : renderedLine s.ppu
  · have hline : s.ppu.scanline ≠ 241 := by omega
    obtain ⟨p, e⟩ := (lineWork_changes s).ppuOnly
    rw [dotWork_rendered h, if_neg (mt And.left hline), e]
  · rw [dotWork_unrendered h]
    split <;> rfl

/-- The dot's flags of the sprites that line 261, dot 1 clears. -/
theorem spriteFlags_lineWork_clear {s : State} (hl : s.ppu.scanline = 261) (hd : s.ppu.dot = 1) :
    (lineWork s).ppu.sprite0Hit = false ∧ (lineWork s).ppu.spriteOverflow = false := by
  have hpixel : ¬ pixelDot s.ppu := by simp [pixelDot, hl]
  have heval : ¬ evaluationDot s.ppu := by simp [evaluationDot, hl]
  rw [(lineWork_noPixel hpixel).2, (lineWork_unevaluated heval).2, clearStage_eq, if_pos ⟨hl, hd⟩]
  exact ⟨rfl, rfl⟩

/-- A clock works on the line and dot of the counters before it, but for the dot to skip. -/
theorem clockStart_counters {s : State} (h : ¬ skipsDot s.ppu) :
    (clockStart s).ppu.scanline = s.ppu.scanline ∧ (clockStart s).ppu.dot = s.ppu.dot := by
  have hc := counters_clockStart s
  rw [Ppu.oddSkip_of_not_skipsDot h] at hc
  obtain ⟨hline, hdot, -⟩ := Ppu.counters_eq_iff.1 hc
  exact ⟨hline, hdot⟩

/-- The dots of vblank are on no line whose dot a clock skips. -/
theorem clockStart_at_iff {s : State} {l d : Nat} (h : l ≠ 0) :
    ((clockStart s).ppu.scanline = l ∧ (clockStart s).ppu.dot = d) ↔ (s.ppu.scanline = l ∧ s.ppu.dot = d) := by
  by_cases hs : skipsDot s.ppu
  · have hc := counters_clockStart s
    rw [Ppu.counters_oddSkip, if_pos hs] at hc
    have hline : (clockStart s).ppu.scanline = 0 := (congrArg Prod.fst hc).trans hs.1
    rw [hline, hs.1]
    simp [h.symm]
  · obtain ⟨hline, hdot⟩ := clockStart_counters hs
    rw [hline, hdot]

/-- Settles O49: the flags and the request are those of the dot's work on the counters before the clock, and a
waiting copy touches the flags only by a read of $2002. -/
theorem vblankFlags : Obligations.VblankFlags := by
  intro s
  have hflags := vblankFlags_ppuClock s
  have hnmi : (ppuClock s).bus.nmiSignal = (dotWork (clockStart s)).bus.nmiSignal := rfl
  have hctrl : (clockStart s).ppu.ctrl = s.ppu.ctrl := congrArg Prod.fst (clockStart_changes s .regs (by decide))
  simp only [vblankFlags_dotWork, nmiSignal_dotWork, nmiSignal_clockStart, hctrl,
    clockStart_at_iff (s := s) (l := 241) (d := 1) (by decide),
    clockStart_at_iff (s := s) (l := 261) (d := 1) (by decide)] at hflags hnmi
  refine ⟨fun hl hd => ?rise, fun hl hd => ?fall, fun h => ?elsewhere⟩
  case rise =>
    rw [if_pos ⟨hl, hd⟩] at hflags hnmi
    exact ⟨congrArg Prod.fst hflags, congrArg Prod.snd hflags, hnmi⟩
  case fall =>
    obtain ⟨hline, hdot⟩ := (clockStart_at_iff (by decide)).2 ⟨hl, hd⟩
    have hadvance := Ppu.advance_changes (dotWork (clockStart s)).ppu
    have hwork := spriteFlags_lineWork_clear hline hdot
    rw [← dotWork_rendered (.inr hline)] at hwork
    rw [if_neg (by omega), if_pos ⟨hl, hd⟩] at hflags
    exact ⟨congrArg Prod.fst hflags, congrArg Prod.snd hflags,
      (hadvance .hit (by decide)).trans hwork.1, (hadvance .overflow (by decide)).trans hwork.2⟩
  case elsewhere =>
    rw [if_neg h] at hflags hnmi
    refine ⟨hnmi, fun hv => ?_⟩
    have hv' := (congrArg Prod.fst hflags).symm.trans hv
    split at hv'
    · exact absurd hv' Bool.false_ne_true
    · have hskip := Ppu.oddSkip_changes (dmaDrain s).ppu .vblank (by decide)
      exact dmaDrain_vblank ((congrArg Prod.fst hskip).symm.trans hv')

end Sys2Proof.Machine

/-! SUPPORT. The scroll updates and the background pipeline (R207, R213-R221): the fields of `v`, the addresses of
the fetches as sums, and the shifters. -/

namespace Sys2Proof.Machine

open Sys2Proof.Claims

/-! ### The clock of a dot of its own -/

theorem ppuClock_rendered {s : State} (h : ownDot s) (hl : renderedLine s.ppu) :
    Ppu.ChangesOnly [.counters] (lineWork s).ppu (ppuClock s).ppu := by
  rw [ppuClock_eq, clockStart_of_ownDot h, dotWork_rendered hl]
  exact Ppu.advance_changes _

theorem ppuClock_unrendered {s : State} (h : ownDot s) (hl : ¬ renderedLine s.ppu) :
    Ppu.ChangesOnly [.vblank, .counters] s.ppu (ppuClock s).ppu := by
  rw [ppuClock_eq, clockStart_of_ownDot h]
  exact (dotWork_changes_unrendered hl).trans (Ppu.advance_changes _)

/-! ### The scroll updates (R213-R216) -/

/-- The fetch of phase 7 ends a tile (R207, R213). -/
theorem v_backgroundFetch {s : State} (hr : s.ppu.rendering = true) : (backgroundFetch s).ppu.v =
    if fetchDot s.ppu ∧ (s.ppu.dot - 1) % 8 = 7 then incX s.ppu.v else s.ppu.v := by
  by_cases hfetch : fetchDot s.ppu
  · have hf := s.ppu.onFetchDot_iff.2 hfetch
    by_cases h7 : (s.ppu.dot - 1) % 8 = 7
    · rw [backgroundFetch_incX hf h7, if_pos hr, if_pos ⟨hfetch, h7⟩]
      rfl
    · rw [if_neg (mt And.right h7), backgroundFetch, if_pos hf]
      split
      · obtain ⟨a, b, c, d, e⟩ := s.ppu.reloadShifters_fields
        rw [State.mapPpu_ppu, e]
      · rfl
      · rfl
      · rfl
      · contradiction
      · rfl
  · rw [backgroundFetch_of_not_onFetchDot (mt s.ppu.onFetchDot_iff.1 hfetch), if_neg (mt And.left hfetch)]

/-- The update of `v` of each dot of a rendered line: `IncX` comes before `IncY`, and no other two meet. -/
theorem v_lineWork {s : State} (hr : s.ppu.rendering = true) : (lineWork s).ppu.v =
    if s.ppu.dot = 256 then incY (incX s.ppu.v)
    else if s.ppu.dot = 257 then copyH s.ppu.v s.ppu.t
    else if s.ppu.scanline = 261 ∧ 280 ≤ s.ppu.dot ∧ s.ppu.dot ≤ 304 then copyV s.ppu.v s.ppu.t
    else if ((1 ≤ s.ppu.dot ∧ s.ppu.dot ≤ 255) ∨ (321 ≤ s.ppu.dot ∧ s.ppu.dot ≤ 336)) ∧
      (s.ppu.dot - 1) % 8 = 7 then incX s.ppu.v
    else s.ppu.v := by
  have hfetch := backgroundFetch_changes s
  obtain ⟨-, -, ht, -⟩ := Ppu.regs_eq_iff.1 hfetch.regs
  obtain ⟨hline, hdot, -⟩ := Ppu.counters_eq_iff.1 hfetch.counters
  rw [lineWork_v, Ppu.scrollUpdates_v ((Ppu.rendering_congr hfetch.regs).trans hr), v_backgroundFetch hr,
    hline, hdot, ht]
  split
  · rename_i h
    rw [if_pos (by simp [fetchDot, h])]
  split
  · rename_i h
    rw [if_neg (by simp [fetchDot, h])]
  split
  · rename_i h
    rw [if_neg (by unfold fetchDot; omega)]
  · refine ite_congr (propext ?_) (fun _ => rfl) (fun _ => rfl)
    unfold fetchDot
    omega

/-- Dot 1 starts a tile, and updates nothing. -/
theorem v_ppuClock_of_dot_one {s : State} (h : ownDot s) (hl : renderedLine s.ppu)
    (hr : s.ppu.rendering = true) (hdot : s.ppu.dot = 1) : (ppuClock s).ppu.v = s.ppu.v := by
  rw [ppuClock_rendered h hl .v (by decide), v_lineWork hr]
  simp [hdot]

theorem v_ppuClock_of_skipsDot {s : State} (h : skipsDot s.ppu) (hd : s.bus.oamDmaPpu = false) :
    (ppuClock s).ppu.v = s.ppu.v := by
  have hline : s.ppu.scanline ≤ 239 := by omega
  rw [ppuClock_of_skipsDot h hd]
  exact v_ppuClock_of_dot_one ⟨hd, fun hs => absurd hs.2.1 Nat.one_ne_zero⟩ (.inl hline) h.2.2.2 rfl

/-- A field that lies inside the mask, or outside it, is taken whole. -/
theorem extractLsb'_select (v t m : Addr) (k n : Nat) (b : Bool) (h : ∀ i < n, k + i < 16 ∧ m.getLsbD (k + i) = b) :
    ((v &&& ~~~ m) ||| (t &&& m)).extractLsb' k n = (if b then t else v).extractLsb' k n := by
  apply BitVec.eq_of_getLsbD_eq
  intro i hi
  obtain ⟨hlt, hm⟩ := h i hi
  simp only [BitVec.getLsbD_extractLsb', BitVec.getLsbD_or, BitVec.getLsbD_and, BitVec.getLsbD_not, hi, hlt, hm]
  cases b <;> simp

/-- Settles O50: the dot's update of `v` by the fetch and the scroll updates, and each field of an update as a field
of `v` or of `t`. -/
theorem scrollUpdates : Obligations.ScrollUpdates := by
  refine ⟨fun s hd hr hl => ?clock, fun v t => ⟨?incX, ?incY, ?copyH, ?copyV⟩⟩
  case clock =>
    by_cases hs : skipsDot s.ppu
    · rw [v_ppuClock_of_skipsDot hs hd]
      simp [hs.1, hs.2.1]
    · exact (ppuClock_rendered ⟨hd, hs⟩ hl .v (by decide)).trans (v_lineWork hr)
  case incX =>
    unfold incX
    by_cases h : coarseX v = 31#5
    · simp [h]
    · simp [h]
  case incY =>
    unfold incY
    by_cases h7 : fineY v = 7#3
    · by_cases h29 : coarseY v = 29#5
      · simp [h7, h29]
      by_cases h31 : coarseY v = 31#5
      · simp [h7, h31]
      · simp [h7, h29, h31]
    · simp [h7]
  case copyH =>
    unfold copyH
    exact ⟨extractLsb'_select v t _ 0 5 true (by decide), extractLsb'_select v t _ 10 1 true (by decide),
      extractLsb'_select v t _ 5 5 false (by decide), extractLsb'_select v t _ 11 1 false (by decide),
      extractLsb'_select v t _ 12 3 false (by decide)⟩
  case copyV =>
    unfold copyV
    exact ⟨extractLsb'_select v t _ 5 5 true (by decide), extractLsb'_select v t _ 11 1 true (by decide),
      extractLsb'_select v t _ 12 3 true (by decide), extractLsb'_select v t _ 0 5 false (by decide),
      extractLsb'_select v t _ 10 1 false (by decide)⟩

/-! ### The addresses of the fetches (R217-R219) -/

theorem toNat_or_of_lt {a b : Addr} {k : Nat} (m : Nat) (ha : a.toNat = 2 ^ k * m) (hb : b.toNat < 2 ^ k) :
    (a ||| b).toNat = a.toNat + b.toNat := by
  rw [BitVec.toNat_or, ha, Nat.two_pow_add_eq_or_of_lt hb]

theorem nametableAddr_eq_ofNat (v : Addr) : nametableAddr v = BitVec.ofNat 16 (0x2000 + v.toNat % 4096) := by
  apply BitVec.eq_of_toNat_eq
  have hlow : (v &&& 0x0FFF#16).toNat = v.toNat % 4096 :=
    (BitVec.toNat_and ..).trans (Nat.and_two_pow_sub_one_eq_mod v.toNat 12)
  rw [nametableAddr, toNat_or_of_lt (k := 13) 1 rfl (by omega), hlow, BitVec.toNat_ofNat, BitVec.toNat_ofNat]
  omega

theorem attributeAddr_eq_append (v : Addr) : attributeAddr v =
    2#4 ++ v.extractLsb' 10 2 ++ 0xF#4 ++ (coarseY v).extractLsb' 2 3 ++ (coarseX v).extractLsb' 2 3 := by
  apply BitVec.eq_of_getLsbD_eq
  intro i hi
  simp only [attributeAddr, coarseY, coarseX, BitVec.getLsbD_append]
  interval_cases i <;> simp

theorem toNat_append_eq_add {n m : Nat} (a : BitVec n) (b : BitVec m) : (a ++ b).toNat = a.toNat * 2 ^ m + b.toNat := by
  rw [BitVec.toNat_append, ← Nat.shiftLeft_add_eq_or_of_lt b.isLt, Nat.shiftLeft_eq]

theorem attributeAddr_eq_ofNat (v : Addr) : attributeAddr v = BitVec.ofNat 16 (0x23C0 +
    1024 * (v.toNat / 1024 % 4) + 8 * ((coarseY v).toNat / 4) + (coarseX v).toNat / 4) := by
  apply BitVec.eq_of_toNat_eq
  have hy := (coarseY v).isLt
  have hx := (coarseX v).isLt
  rw [attributeAddr_eq_append]
  simp only [toNat_append_eq_add, BitVec.extractLsb'_toNat, Nat.shiftRight_eq_div_pow, BitVec.toNat_ofNat]
  omega

/-- Bit 1 of a coarse field picks one half of the fetched byte's pairs of bits (R218). -/
theorem attributeBits_eq_ofNat (v : Addr) (x : Byte) : attributeBits v x = BitVec.ofNat 2
    (x.toNat / 2 ^ (4 * ((coarseY v).toNat / 2 % 2) + 2 * ((coarseX v).toNat / 2 % 2)) % 4) := by
  have hbit (c : BitVec 5) : c.getLsbD 1 = true ↔ c.toNat / 2 % 2 = 1 := by
    simp [BitVec.getLsbD, Nat.testBit_eq_decide_div_mod_eq]
  apply BitVec.eq_of_toNat_eq
  unfold attributeBits
  simp only [hbit]
  obtain hy | hy := Nat.mod_two_eq_zero_or_one ((coarseY v).toNat / 2) <;>
    obtain hx | hx := Nat.mod_two_eq_zero_or_one ((coarseX v).toNat / 2) <;>
      simp [hy, hx, Nat.shiftRight_eq_div_pow]

theorem Ppu.patternAddr_eq_ofNat (p : Ppu) (k : Nat) : p.patternAddr (BitVec.ofNat 16 k) =
    BitVec.ofNat 16 ((if p.ctrl.getLsbD 4 then 4096 else 0) + 16 * p.bgNextTileId.toNat + (fineY p.v).toNat + k) := by
  apply BitVec.eq_of_toNat_eq
  have ht := p.bgNextTileId.isLt
  have hy := (fineY p.v).isLt
  unfold patternAddr bgTable zext16
  split <;> simp <;> omega

/-- Settles O51: each phase by its equation, the addresses by their fields; no stage after the fetch writes the
latches. -/
theorem backgroundFetches : Obligations.BackgroundFetches := by
  intro s
  refine ⟨fun hf => backgroundFetch_of_not_onFetchDot (mt s.ppu.onFetchDot_iff.1 hf), fun hf => ?phases,
    fun ho => ?clock⟩
  case phases =>
    have hf := s.ppu.onFetchDot_iff.2 hf
    refine ⟨fun h => ?tile, fun h => ⟨_, rfl, ?attrs⟩, fun h => ?low, fun h => ?high,
      backgroundFetch_incX hf, backgroundFetch_pause hf⟩
    case tile =>
      rw [backgroundFetch_tile hf h, ← nametableAddr_eq_ofNat]
      rfl
    case attrs =>
      rw [backgroundFetch_attribute hf h, ← attributeAddr_eq_ofNat, ← attributeBits_eq_ofNat]
      rfl
    case low =>
      have haddr := s.ppu.patternAddr_eq_ofNat 0
      rw [Nat.add_zero] at haddr
      rw [backgroundFetch_low hf h, ← haddr]
      rfl
    case high =>
      rw [backgroundFetch_high hf h, ← s.ppu.patternAddr_eq_ofNat 8]
      rfl
  case clock =>
    split
    · rename_i hl
      exact (ppuClock_rendered ho hl .latches (by decide)).trans (lineWork_latches s)
    · rename_i hl
      exact ppuClock_unrendered ho hl .latches (by decide)

/-! ### The shifters (R220, R221) -/

/-- The four shifters moved left by `n` bits. -/
def Ppu.shiftedBy (n : Nat) (p : Ppu) : Ppu := { p with
  shPatLo := p.shPatLo <<< n, shPatHi := p.shPatHi <<< n
  shAttrLo := p.shAttrLo <<< n, shAttrHi := p.shAttrHi <<< n }

theorem Ppu.shiftedBy_shiftedBy (m n : Nat) (p : Ppu) : (p.shiftedBy m).shiftedBy n = p.shiftedBy (m + n) := by
  simp only [shiftedBy, BitVec.shiftLeft_add]

theorem Ppu.backgroundShift_on {p : Ppu} (hf : fetchDot p) (hb : p.showBg = true) :
    p.backgroundShift = p.shiftedBy 1 := by
  rw [backgroundShift, p.onFetchDot_iff.2 hf, hb]
  rfl

theorem Ppu.backgroundShift_off {p : Ppu} (h : ¬ (fetchDot p ∧ p.mask.getLsbD 3 = true)) :
    p.backgroundShift = p := by
  rw [backgroundShift, if_neg]
  rwa [Bool.and_eq_true, onFetchDot_iff]

theorem shiftTimes_eq (n : Nat) {p : Ppu} (hf : fetchDot p) (hb : p.showBg = true) :
    shiftTimes n p = p.shiftedBy n := by
  induction n generalizing p with
  | zero => simp [shiftTimes, Ppu.shiftedBy]
  | succ n ih =>
    rw [shiftTimes, Ppu.backgroundShift_on hf hb, ih (p := p.shiftedBy 1) hf hb, Ppu.shiftedBy_shiftedBy,
      Nat.add_comm 1 n]

/-- The low byte that a load puts in a shifter is the high byte after eight shifts. -/
theorem hi_loaded_shiftLeft (sh : Addr) (b : Byte) : hi (((sh &&& 0xFF00#16) ||| zext16 b) <<< 8) = b := by
  apply BitVec.eq_of_getLsbD_eq
  intro i hlt
  interval_cases i <;> simp [hi, zext16]

theorem hi_loaded (sh : Addr) (b : Byte) : hi ((sh &&& 0xFF00#16) ||| zext16 b) = hi sh := by
  apply BitVec.eq_of_getLsbD_eq
  intro i hlt
  interval_cases i <;> simp [hi, zext16]

/-- Settles O52: eight shifts move the loaded bytes into the high bytes, and no stage but the fetch and the shift
writes the shifters. -/
theorem shiftersCarryTheTile : Obligations.ShiftersCarryTheTile := by
  refine ⟨fun p hf hb => ?tile, fun p h => Ppu.backgroundShift_off h, fun s ho => ?clock⟩
  case tile =>
    rw [shiftTimes_eq 8 (p := p.loadShifters) hf hb]
    exact ⟨hi_loaded_shiftLeft _ _, hi_loaded_shiftLeft _ _, hi_loaded_shiftLeft _ _, hi_loaded_shiftLeft _ _,
      hi_loaded _ _, hi_loaded _ _, Ppu.backgroundShift_on hf hb⟩
  case clock =>
    split
    · rename_i hl
      exact (ppuClock_rendered ho hl .shifters (by decide)).trans (lineWork_shifters s)
    · rename_i hl
      exact ppuClock_unrendered ho hl .shifters (by decide)

end Sys2Proof.Machine

/-! SUPPORT. The sprite pipeline (R207, R222-R225): the scan as a staging of the entries in range, and the slots one
by one. -/

namespace Sys2Proof.Machine

open Sys2Proof.Claims

/-! ### The scan (R222) -/

/-- Stage the OAM entries of a list, in its order; the ninth sets sprite overflow. -/
def Ppu.stageEntries (entries : List Nat) (p : Ppu) : Ppu :=
  match entries with
  | [] => p
  | n :: rest =>
    if p.nextCount < 8 then
      Ppu.stageEntries rest { p with
        nextSprites := p.nextSprites.set p.nextCount (p.oamSprite n)
        nextSprite0 := p.nextSprite0 || n == 0
        nextCount := p.nextCount + 1 }
    else { p with spriteOverflow := true }

/-- Whether an OAM entry is in range of the present line. -/
def Ppu.entryInRange (p : Ppu) (n : Nat) : Bool := p.inRange (p.oam.get (4 * n))

/-- The scan stages the entries in range, and no step of it changes which those are. -/
theorem Ppu.scanOam_eq_stageEntries (k n : Nat) (p : Ppu) : scanOam k n p =
    p.stageEntries ((List.range' n k).filter p.entryInRange) := by
  induction k generalizing n p with
  | zero => rfl
  | succ k ih =>
    rw [List.range'_succ, scanOam]
    by_cases hin : p.entryInRange n = true
    · rw [List.filter_cons_of_pos hin, stageEntries]
      refine (if_pos hin).trans ?_
      split
      · exact ih _ _
      · rfl
    · rw [List.filter_cons_of_neg hin]
      exact (if_neg hin).trans (ih _ _)

theorem spritesInRange_eq_filter (p : Ppu) :
    spritesInRange p = (List.range 64).filter p.entryInRange := by
  refine List.filter_congr fun n _ => ?_
  have hheight : (if p.ctrl.getLsbD 5 = true then 16 else 8 : Int) = (p.spriteHeight : Int) := by
    unfold Ppu.spriteHeight Ppu.spriteSize
    split <;> rfl
  rw [hheight]
  unfold Ppu.entryInRange Ppu.inRange
  congr 1 <;> exact decide_eq_decide.2 (by omega)

theorem Ppu.spriteEvaluate_eq_stageEntries (p : Ppu) : p.spriteEvaluate =
    ({ p with nextCount := 0, nextSprite0 := false } : Ppu).stageEntries (spritesInRange p) := by
  rw [spriteEvaluate, scanOam_eq_stageEntries, spritesInRange_eq_filter, List.range_eq_range']
  rfl

section staging

variable {p : Ppu}

theorem nextCount_stageEntries (entries : List Nat) (h : p.nextCount ≤ 8) :
    (p.stageEntries entries).nextCount = min 8 (p.nextCount + entries.length) := by
  induction entries generalizing p with
  | nil => exact (Nat.min_eq_right h).symm
  | cons n rest ih =>
    rw [Ppu.stageEntries]
    split
    · rw [ih (by simp only; omega)]
      simp only [List.length_cons]
      omega
    · simp only [List.length_cons]
      omega

theorem spriteOverflow_stageEntries (entries : List Nat) (h : p.nextCount ≤ 8) :
    (p.stageEntries entries).spriteOverflow =
      (p.spriteOverflow || decide (8 < p.nextCount + entries.length)) := by
  induction entries generalizing p with
  | nil => simp [Ppu.stageEntries, Nat.not_lt.2 h]
  | cons n rest ih =>
    rw [Ppu.stageEntries]
    split
    · rw [ih (by simp only; omega)]
      simp only [List.length_cons, Nat.add_right_comm, Nat.add_assoc]
    · have hfull : 8 < p.nextCount + (n :: rest).length := by simp only [List.length_cons]; omega
      rw [decide_eq_true hfull, Bool.or_true]

/-- Once noted, or with entry 0 not among those to stage, the note of sprite 0 stays. -/
theorem nextSprite0_stageEntries (entries : List Nat) (h : p.nextSprite0 = true ∨ 0 ∉ entries) :
    (p.stageEntries entries).nextSprite0 = p.nextSprite0 := by
  induction entries generalizing p with
  | nil => rfl
  | cons n rest ih =>
    rw [Ppu.stageEntries]
    split
    · have hnote : (p.nextSprite0 || n == 0) = p.nextSprite0 := by
        obtain h | h := h
        · simp [h]
        · have hn : n ≠ 0 := fun e => h (e ▸ List.mem_cons_self ..)
          simp [hn]
      rw [ih]
      · exact hnote
      · exact h.imp (fun h => hnote.trans h) (fun h => mt (List.mem_cons_of_mem n) h)
    · rfl

/-- A slot before the next free one is not written again. -/
theorem nextSprites_stageEntries_of_lt (entries : List Nat) {j : Nat} (h : j < p.nextCount) :
    (p.stageEntries entries).nextSprites[j]? = p.nextSprites[j]? := by
  induction entries generalizing p with
  | nil => rfl
  | cons n rest ih =>
    rw [Ppu.stageEntries]
    split
    · rw [ih (Nat.lt_succ_of_lt h)]
      exact List.getElem?_set_ne (Nat.ne_of_gt h)
    · rfl

/-- The entries of the list fill the free slots in its order. -/
theorem nextSprites_stageEntries (hlen : p.nextSprites.length = 8) {entries : List Nat} {i n : Nat}
    (hi : entries[i]? = some n) (hslot : p.nextCount + i < 8) :
    (p.stageEntries entries).nextSprites[p.nextCount + i]? = some (p.oamSprite n) := by
  induction entries generalizing p i with
  | nil => simp at hi
  | cons m rest ih =>
    rw [Ppu.stageEntries, if_pos (by omega)]
    cases i with
    | zero =>
      obtain rfl : m = n := by simpa using hi
      rw [nextSprites_stageEntries_of_lt rest (Nat.lt_succ_self p.nextCount)]
      exact List.getElem?_set_self (by omega)
    | succ i =>
      have hrest := ih (p := { p with
        nextSprites := p.nextSprites.set p.nextCount (p.oamSprite m)
        nextSprite0 := p.nextSprite0 || m == 0
        nextCount := p.nextCount + 1 }) (List.length_set.trans hlen) (i := i) (by simpa using hi)
        (by simp only; omega)
      rw [Nat.add_assoc, Nat.add_comm 1 i] at hrest
      exact hrest

end staging

/-- Entry 0 is the first to be looked at. -/
theorem nextSprite0_spriteEvaluate (p : Ppu) : p.spriteEvaluate.nextSprite0 = decide (0 ∈ spritesInRange p) := by
  rw [Ppu.spriteEvaluate_eq_stageEntries]
  by_cases h : 0 ∈ spritesInRange p
  · have hfirst : spritesInRange p = 0 :: (List.range' 1 63).filter p.entryInRange := by
      rw [spritesInRange_eq_filter] at h ⊢
      exact List.filter_cons_of_pos (List.mem_filter.1 h).2
    rw [decide_eq_true h, hfirst, Ppu.stageEntries, if_pos (Nat.zero_lt_succ 7)]
    exact nextSprite0_stageEntries _ (.inl rfl)
  · rw [nextSprite0_stageEntries _ (.inr h)]
    simp [h]

/-- Settles O53: the scan stages the list of the entries in range; of the stages of a dot only the evaluation and the
transfer write the staged buffer, and only the evaluation and the clear write the overflow. -/
theorem spriteEvaluation : Obligations.SpriteEvaluation := by
  refine ⟨fun s ho => ?clock, fun p hlen => ⟨?count, nextSprite0_spriteEvaluate p, ?ninth,
    fun k n hk hn => ?entries⟩⟩
  case clock =>
    by_cases he : evaluationDot s.ppu
    · have hclock := ppuClock_rendered ho (.inl he.2.1)
      rw [if_pos he, if_pos he]
      exact ⟨(hclock .staged (by decide)).trans (lineWork_evaluated he).1,
        (hclock .overflow (by decide)).trans (lineWork_evaluated he).2⟩
    rw [if_neg he, if_neg he]
    by_cases hl : renderedLine s.ppu
    · have hclock := ppuClock_rendered ho hl
      obtain ⟨hstaged, hoverflow⟩ := lineWork_unevaluated he
      refine ⟨(hclock .staged (by decide)).trans (hstaged.trans ?_),
        (hclock .overflow (by decide)).trans (hoverflow.trans ?_)⟩
      · simp only [staged_spriteLoads, hl, true_and]
      · rw [clearStage_eq]
        split <;> rfl
    · have hclock := ppuClock_unrendered ho hl
      rw [if_neg (fun h => hl h.2.1), if_neg (fun h => hl (.inr h.1))]
      exact ⟨hclock .staged (by decide), hclock .overflow (by decide)⟩
  case count =>
    rw [Ppu.spriteEvaluate_eq_stageEntries, nextCount_stageEntries _ (Nat.zero_le 8), Nat.zero_add]
  case ninth =>
    rw [Ppu.spriteEvaluate_eq_stageEntries, spriteOverflow_stageEntries _ (Nat.zero_le 8), Nat.zero_add]
  case entries =>
    have h := nextSprites_stageEntries (p := { p with nextCount := 0, nextSprite0 := false }) hlen hn
    rw [Nat.zero_add] at h
    rw [Ppu.spriteEvaluate_eq_stageEntries]
    exact h hk

/-! ### The slots (R223-R225) -/

theorem getElem?_transferSlots {count : Nat} {next : List Sprite} {cur : List SpriteSlot} {i : Nat} {sp : Sprite}
    {slot : SpriteSlot} (hn : next[i]? = some sp) (hc : cur[i]? = some slot) :
    (transferSlots count next cur)[i]? =
      some { slot with sprite := sp, x := if i < count then sp.x else slot.x } := by
  induction i generalizing count next cur with
  | zero =>
    cases next with
    | nil => simp at hn
    | cons sp' next =>
      cases cur with
      | nil => simp at hc
      | cons slot' cur =>
        obtain rfl : sp' = sp := by simpa using hn
        obtain rfl : slot' = slot := by simpa using hc
        rfl
  | succ i ih =>
    cases next with
    | nil => simp at hn
    | cons sp' next =>
      cases cur with
      | nil => simp at hc
      | cons slot' cur =>
        have hlt : i < count - 1 ↔ i + 1 < count := by omega
        simp only [List.getElem?_cons_succ] at hn hc
        simp only [transferSlots, List.getElem?_cons_succ, ih hn hc, hlt]

theorem getElem?_shiftSlots {count i : Nat} {slots : List SpriteSlot} {slot : SpriteSlot}
    (h : slots[i]? = some slot) :
    (shiftSlots count slots)[i]? = some (if i < count then slot.shift else slot) := by
  have hi : i < slots.length := (List.getElem?_eq_some_iff.1 h).1
  unfold shiftSlots
  by_cases hlt : i < count
  · rw [List.getElem?_append_left (by simp only [List.length_map, List.length_take]; omega), if_pos hlt]
    simp [hlt, h]
  · have hlen : ((slots.take count).map SpriteSlot.shift).length = count := by
      simp only [List.length_map, List.length_take]
      omega
    rw [List.getElem?_append_right (by omega), hlen, List.getElem?_drop, Nat.add_sub_cancel' (Nat.le_of_not_lt hlt),
      if_neg hlt, h]

theorem SpriteSlot.shift_eq (slot : SpriteSlot) : slot.shift =
    if 0 < slot.x.toNat then { slot with x := slot.x - 1#8 }
    else { slot with lo := slot.lo <<< 1, hi := slot.hi <<< 1 } := by
  have hx : slot.x = 0#8 ↔ ¬ 0 < slot.x.toNat := by
    rw [← BitVec.toNat_inj, BitVec.toNat_ofNat]
    omega
  unfold SpriteSlot.shift
  by_cases h : 0 < slot.x.toNat
  · rw [if_pos h, if_neg (fun e => hx.1 e h)]
  · rw [if_neg h, if_pos (hx.2 h)]

/-- The slots that a dot's shift leaves, where it makes one (R225). -/
theorem curSprites_spriteShift {p : Ppu} (h : p.mask.getLsbD 4 = true) :
    p.spriteShift.curSprites = shiftSlots p.curCount p.curSprites :=
  congrArg Ppu.curSprites (if_pos h)

theorem getElem?_spriteFetch {s : State} {i : Nat} {slot : SpriteSlot} (h : s.ppu.curSprites[i]? = some slot) :
    (spriteFetch i s).ppu.curSprites[i]? = some (fetchSlot i slot s) := by
  simp [spriteFetch, h]

/-- A row of the sprite, from its top or, flipped, from its bottom (R224). -/
theorem flipped_eq_ofNat {row last : Nat} (flip : Bool) (h : row ≤ last) (hl : last < 16) :
    (if flip = true then BitVec.ofNat 16 last - BitVec.ofNat 16 row else BitVec.ofNat 16 row) =
      BitVec.ofNat 16 (if flip = true then last - row else row) := by
  cases flip
  · rfl
  · exact BitVec.ofNat_sub_ofNat_of_le _ _ (by omega) h

theorem smallSpriteAddr_eq_ofNat (table : Bool) (tile : Byte) (r : Nat) :
    (if table = true then 0x1000#16 else 0x0000#16) + (zext16 tile <<< 4) + BitVec.ofNat 16 r =
      BitVec.ofNat 16 ((if table = true then 4096 else 0) + 16 * tile.toNat + r) := by
  have ht := tile.isLt
  apply BitVec.eq_of_toNat_eq
  cases table <;> simp [zext16] <;> omega

theorem tallSpriteAddr_eq_ofNat (tile : Byte) {r : Nat} (hr : r < 16) :
    (zext16 (tile &&& 1#8) <<< 12) +
      ((zext16 (tile &&& 0xFE#8) + (if (8#16).ule (BitVec.ofNat 16 r) then 1#16 else 0#16)) <<< 4) +
      (BitVec.ofNat 16 r &&& 7#16) =
    BitVec.ofNat 16 (4096 * (tile.toNat % 2) + 16 * (tile.toNat / 2 * 2 + r / 8) + r % 8) := by
  have ht := tile.isLt
  have htable : (zext16 (tile &&& 1#8)).toNat = tile.toNat % 2 := by revert tile; decide
  have hfirst : (zext16 (tile &&& 0xFE#8)).toNat = tile.toNat / 2 * 2 := by revert tile; decide
  have hrow : (BitVec.ofNat 16 r &&& 7#16).toNat = r % 8 := by
    rw [BitVec.toNat_and, BitVec.toNat_ofNat, Nat.mod_eq_of_lt (by omega)]
    exact Nat.and_two_pow_sub_one_eq_mod r 3
  have hhalf : (8#16).ule (BitVec.ofNat 16 r) = true ↔ 8 ≤ r := by
    simp [BitVec.ule, Nat.mod_eq_of_lt (show r < 65536 by omega)]
  apply BitVec.eq_of_toNat_eq
  simp only [BitVec.toNat_add, BitVec.toNat_shiftLeft, htable, hfirst, hrow, hhalf, BitVec.toNat_ofNat,
    Nat.shiftLeft_eq]
  split <;> simp <;> omega

theorem Ppu.spriteAddr_eq_ofNat {p : Ppu} {sp : Sprite} (hy : sp.y.toNat ≤ p.scanline)
    (hrow : p.scanline - sp.y.toNat < if p.ctrl.getLsbD 5 then 16 else 8) :
    p.spriteAddr sp = BitVec.ofNat 16 (spriteRowAddr p sp (p.scanline - sp.y.toNat)) := by
  have hbyte := sp.y.isLt
  have hline : BitVec.ofNat 16 p.scanline - zext16 sp.y = BitVec.ofNat 16 (p.scanline - sp.y.toNat) := by
    rw [zext16_eq_ofNat]
    exact BitVec.ofNat_sub_ofNat_of_le _ _ (by omega) hy
  unfold spriteAddr spriteRowAddr spriteSize spriteTable
  rw [hline]
  by_cases h16 : p.ctrl.getLsbD 5 = true
  · rw [if_pos h16] at hrow ⊢
    simp only [if_pos h16, flipped_eq_ofNat (sp.attr.getLsbD 7) (Nat.le_of_lt_succ hrow) (by decide)]
    exact tallSpriteAddr_eq_ofNat sp.tile (by split <;> omega)
  · rw [if_neg h16] at hrow ⊢
    simp only [if_neg h16, flipped_eq_ofNat (sp.attr.getLsbD 7) (Nat.le_of_lt_succ hrow) (by decide)]
    exact smallSpriteAddr_eq_ofNat _ sp.tile _

/-- Settles O54: each stage slot by slot, and the stages of a dot that write the slots. -/
theorem spriteSlots : Obligations.SpriteSlots := by
  refine ⟨fun s ho => ?clock, fun p i sp slot hn hc => getElem?_transferSlots hn hc,
    fun p => ⟨rfl, rfl, rfl, rfl⟩, fun s i slot h => ⟨fun hi => ?empty, fun hi hy hrow a ha => ?pattern⟩,
    fun p i slot h => ⟨fun hm => ?off, fun hm hi => ?past, fun hm hi => ?shift⟩⟩
  case clock =>
    by_cases hl : renderedLine s.ppu
    · rw [ppuClock_rendered ho hl .active (by decide), active_lineWork, spriteLoads_eq]
      simp only [hl, true_and]
      split
      · rfl
      · split
        · rfl
        · split <;> rfl
    · have hpixel : ¬ pixelDot s.ppu := fun h => hl (.inl h.1)
      rw [if_neg hpixel, if_neg (fun h => hl h.2.1), if_neg (fun h => hl h.2.1)]
      exact ppuClock_unrendered ho hl .active (by decide)
  case empty =>
    rw [getElem?_spriteFetch h, fetchSlot, if_neg (Nat.not_lt.2 hi)]
  case pattern =>
    rw [getElem?_spriteFetch h, fetchSlot, if_pos hi, Ppu.spriteAddr_eq_ofNat hy hrow, ← ha]
    rfl
  case off => exact if_neg (Bool.not_eq_true _ ▸ hm)
  case past => rw [curSprites_spriteShift hm, getElem?_shiftSlots h, if_neg (Nat.not_lt.2 hi)]
  case shift => rw [curSprites_spriteShift hm, getElem?_shiftSlots h, if_pos hi, SpriteSlot.shift_eq]

end Sys2Proof.Machine

/-! SUPPORT. The pixel (R226-R230): its two sources, the mixed pixel, and its four bytes of the frame buffer. -/

namespace Sys2Proof.Machine

open Sys2Proof.Claims

/-! ### The sources (R226, R227) -/

theorem columnShown_iff (clip left : Bool) (x : Nat) :
    columnShown clip left x = true ↔ 8 ≤ x ∨ left = true ∨ clip = false := by
  simp [columnShown, or_assoc]

theorem twoBits_eq_ofNat (high low : Bool) : twoBits high low =
    BitVec.ofNat 2 ((if high = true then 2 else 0) + (if low = true then 1 else 0)) := by
  cases high <;> cases low <;> rfl

/-- The same choice by the bit that is not set. -/
theorem ite_eq_false_comm (b : Bool) (n : Nat) : (if b = false then 0 else n) = if b = true then n else 0 := by
  cases b <;> rfl

theorem twoBits_eq_zero_iff (high low : Bool) : twoBits high low = 0#2 ↔ high = false ∧ low = false := by
  cases high <;> cases low <;> decide

/-- The mask of fine X has one bit, the one that the pixel takes (R226). -/
theorem and_fineX_mask_eq_zero_iff (sh : Addr) (k : BitVec 3) :
    sh &&& (0x8000#16 >>> k.toNat) = 0#16 ↔ sh.getLsbD (15 - k.toNat) = false := by
  have hm : ∀ i < 16, (0x8000#16 >>> k.toNat).getLsbD i = decide (i = 15 - k.toNat) := by
    revert k
    decide
  constructor
  · intro h
    have hbit := congrArg (BitVec.getLsbD · (15 - k.toNat)) h
    simpa only [BitVec.getLsbD_and, hm _ (Nat.sub_lt_succ 15 _), decide_true, Bool.and_true,
      BitVec.getLsbD_zero] using hbit
  · intro h
    apply BitVec.eq_of_getLsbD_eq
    intro i hi
    rw [BitVec.getLsbD_and, hm i hi, BitVec.getLsbD_zero]
    by_cases hik : i = 15 - k.toNat
    · rw [hik, h, Bool.false_and]
    · rw [decide_eq_false hik, Bool.and_false]

theorem Ppu.backgroundPixel_shown {p : Ppu} {clip : Bool} {m : Addr} (hm : m = 0x8000#16 >>> p.fineX.toNat)
    (hb : p.mask.getLsbD 3 = true) (hs : 8 ≤ p.dot - 1 ∨ p.mask.getLsbD 1 = true ∨ clip = false) :
    p.backgroundPixel clip =
      (BitVec.ofNat 2 ((if p.shPatHi &&& m = 0#16 then 0 else 2) + (if p.shPatLo &&& m = 0#16 then 0 else 1)),
        BitVec.ofNat 2
          ((if p.shAttrHi &&& m = 0#16 then 0 else 2) + (if p.shAttrLo &&& m = 0#16 then 0 else 1))) := by
  subst hm
  have hshown : (p.showBg && columnShown clip p.showBgLeft p.column) = true :=
    Bool.and_eq_true_iff.2 ⟨hb, (columnShown_iff ..).2 hs⟩
  rw [backgroundPixel, if_pos hshown]
  simp only [twoBits_eq_ofNat, and_fineX_mask_eq_zero_iff, ite_eq_false_comm]

/-! ### The first opaque slot -/

/-- A slot gives no pixel on this dot. -/
abbrev SpriteSlot.transparent (slot : SpriteSlot) : Prop :=
  slot.x ≠ 0#8 ∨ (slot.hi.getLsbD 7 = false ∧ slot.lo.getLsbD 7 = false)

/-- The pixel of slot `i`, if it is the one drawn. -/
def SpriteSlot.pixel (i : Nat) (slot : SpriteSlot) : SpritePixel :=
  ⟨twoBits (slot.hi.getLsbD 7) (slot.lo.getLsbD 7), slot.sprite.attr.setWidth 2, slot.sprite.attr.getLsbD 5, i⟩

theorem firstOpaque_cons (i : Nat) (slot : SpriteSlot) (rest : List SpriteSlot) : firstOpaque i (slot :: rest) =
    if slot.transparent then firstOpaque (i + 1) rest else some (slot.pixel i) := by
  have h : (slot.x = 0#8 ∧ twoBits (slot.hi.getLsbD 7) (slot.lo.getLsbD 7) ≠ 0#2) ↔ ¬ slot.transparent := by
    rw [Ne, twoBits_eq_zero_iff, SpriteSlot.transparent, not_or, not_not]
  simp only [firstOpaque, h, ite_not]
  rfl

theorem firstOpaque_eq_none {i : Nat} {slots : List SpriteSlot} (h : firstOpaque i slots = none) :
    ∀ slot ∈ slots, slot.transparent := by
  induction slots generalizing i with
  | nil => exact nofun
  | cons slot rest ih =>
    rw [firstOpaque_cons] at h
    split at h
    · rename_i htransparent
      exact List.forall_mem_cons.2 ⟨htransparent, ih h⟩
    · exact nomatch h

/-- The pixel is that of a slot which is not transparent, behind slots which are. -/
theorem firstOpaque_eq_some {i : Nat} {slots : List SpriteSlot} {f : SpritePixel} (h : firstOpaque i slots = some f) :
    ∃ (k : Nat) (slot : SpriteSlot), slots[k]? = some slot ∧ f = slot.pixel (i + k) ∧ ¬ slot.transparent ∧
      ∀ j < k, ∀ other : SpriteSlot, slots[j]? = some other → other.transparent := by
  induction slots generalizing i with
  | nil => exact nomatch h
  | cons slot rest ih =>
    rw [firstOpaque_cons] at h
    split at h
    · rename_i htransparent
      obtain ⟨k, slot', hk, hf, hopaque, hbefore⟩ := ih h
      refine ⟨k + 1, slot', hk, by rw [hf, Nat.add_assoc, Nat.add_comm 1], hopaque, fun j hj other ho => ?_⟩
      cases j with
      | zero =>
        obtain rfl : slot = other := by simpa using ho
        exact htransparent
      | succ j => exact hbefore j (Nat.lt_of_succ_lt_succ hj) other (by simpa using ho)
    · rename_i hopaque
      exact ⟨0, slot, rfl, (Option.some.inj h).symm, hopaque, fun j hj => absurd hj (Nat.not_lt_zero j)⟩

theorem Ppu.spritePixel_shown {p : Ppu} {clip : Bool} (hb : p.mask.getLsbD 4 = true)
    (hs : 8 ≤ p.dot - 1 ∨ p.mask.getLsbD 2 = true ∨ clip = false) :
    p.spritePixel clip = firstOpaque 0 (p.curSprites.take p.curCount) :=
  if_pos (Bool.and_eq_true_iff.2 ⟨hb, (columnShown_iff ..).2 hs⟩)

theorem Ppu.spritePixel_hidden {p : Ppu} {clip : Bool}
    (h : ¬ (p.mask.getLsbD 4 = true ∧ (8 ≤ p.dot - 1 ∨ p.mask.getLsbD 2 = true ∨ clip = false))) :
    p.spritePixel clip = none := by
  rw [← columnShown_iff, ← Bool.and_eq_true] at h
  exact if_neg h

theorem Ppu.backgroundPixel_hidden {p : Ppu} {clip : Bool}
    (h : ¬ (p.mask.getLsbD 3 = true ∧ (8 ≤ p.dot - 1 ∨ p.mask.getLsbD 1 = true ∨ clip = false))) :
    p.backgroundPixel clip = (0#2, 0#2) := by
  rw [← columnShown_iff, ← Bool.and_eq_true] at h
  exact if_neg h

/-- Settles O55: the mask selects the bit that the model reads, and the sprite pixel is found by induction over the
active slots. -/
theorem pixelSources : Obligations.PixelSources := by
  intro p clip m hm
  refine ⟨Ppu.backgroundPixel_shown hm, Ppu.backgroundPixel_hidden, Ppu.spritePixel_hidden,
    fun hb hs hnone j hj other ho => ?none, fun f hf => ?first⟩
  case none =>
    rw [Ppu.spritePixel_shown hb hs] at hnone
    refine firstOpaque_eq_none hnone other (List.mem_of_getElem? (i := j) ?_)
    rw [List.getElem?_take_of_lt hj, ho]
  case first =>
    by_cases hshown : p.mask.getLsbD 4 = true ∧ (8 ≤ p.dot - 1 ∨ p.mask.getLsbD 2 = true ∨ clip = false)
    · rw [Ppu.spritePixel_shown hshown.1 hshown.2] at hf
      obtain ⟨k, slot, hk, rfl, hopaque, hbefore⟩ := firstOpaque_eq_some hf
      obtain ⟨hx, hpx⟩ := not_or.1 hopaque
      rw [Nat.zero_add]
      have hlt : k < p.curCount := by
        by_contra hge
        rw [List.getElem?_take_eq_none (Nat.le_of_not_lt hge)] at hk
        exact nomatch hk
      rw [List.getElem?_take_of_lt hlt] at hk
      exact ⟨slot, hk, hlt, not_not.1 hx, mt (twoBits_eq_zero_iff _ _).1 hpx, twoBits_eq_ofNat _ _, rfl, rfl,
        fun j hj other ho => hbefore j hj other ((List.getElem?_take_of_lt (hj.trans hlt)).trans ho)⟩
    · rw [Ppu.spritePixel_hidden hshown] at hf
      exact nomatch hf

/-! ### Mixing (R228, R229) -/

theorem backPalette_eq_ofNat (pal : BitVec 2) : pal.setWidth 3 = BitVec.ofNat 3 pal.toNat := by
  revert pal
  decide

/-- The sprite palettes are 4 to 7. -/
theorem spritePalette_eq_ofNat (pal : BitVec 2) : 4#3 + pal.setWidth 3 = BitVec.ofNat 3 (4 + pal.toNat) := by
  revert pal
  decide

/-- Settles O56: each row of the table by which of the two pixels is opaque. -/
theorem pixelMixing : Obligations.PixelMixing := by
  intro p bg pal f
  rw [← backPalette_eq_ofNat, ← spritePalette_eq_ofNat]
  refine ⟨rfl, ?sprite, fun hbg => if_neg hbg, fun hbg => ?both, rfl, ?hit⟩
  case sprite =>
    simp only [mixPixel, ne_eq, not_true_eq_false, false_and, if_false]
  case both =>
    simp only [mixPixel, hbg, ne_eq, not_false_eq_true, true_and]
  case hit =>
    simp only [Ppu.hitsSprite0, Ppu.column, Bool.and_eq_true, bne_iff_ne, beq_iff_eq, and_assoc]

/-! ### The four bytes of a pixel (R43, R230) -/

theorem get_putPixel {row : Memory} (h : row.wf = true) (x : Nat) (c : Rgb) (a : Nat) :
    (putPixel x c row).get a = if a = 4 * x + 3 then 0xFF#8 else if a = 4 * x + 2 then c.b
      else if a = 4 * x + 1 then c.g else if a = 4 * x then c.r else row.get a := by
  have hr := row.wf_put (4 * x) c.r h
  have hg := Memory.wf_put _ (4 * x + 1) c.g hr
  have hb := Memory.wf_put _ (4 * x + 2) c.b hg
  rw [putPixel, Memory.get_put _ hb, Memory.get_put _ hg, Memory.get_put _ hr, Memory.get_put _ h]

/-- The byte of the frame buffer after the pixel of column `x` of row `y`, by its number (R230). -/
theorem frameByte_modify {p : Ppu} {y : Nat} (hy : y < p.frame.length) (hw : ∀ row ∈ p.frame, row.wf = true)
    (x : Nat) (c : Rgb) (o : Nat) : ({ p with frame := p.frame.modify y (putPixel x c) } : Ppu).frameByte o =
      if o / 1024 = y then
        if o % 1024 = 4 * x + 3 then 0xFF#8 else if o % 1024 = 4 * x + 2 then c.b
        else if o % 1024 = 4 * x + 1 then c.g else if o % 1024 = 4 * x then c.r else p.frameByte o
      else p.frameByte o := by
  simp only [Ppu.frameByte, List.getD_eq_getElem?_getD, List.getElem?_modify]
  by_cases h : o / 1024 = y
  · have hrow : p.frame[y]? = some p.frame[y] := List.getElem?_eq_getElem hy
    simp only [h, hrow, if_true, Option.map_eq_map, Option.map_some, Option.getD_some,
      get_putPixel (hw _ (List.getElem_mem hy))]
  · simp only [if_neg h, if_neg (Ne.symm h), Option.map_eq_map, Option.map_id']

/-- The colour of the dot: that of its mixed pixel. -/
def dotColour (s : State) : Rgb :=
  pixelColour (mixPixel (s.ppu.backgroundPixel s.launch.leftClip) (s.ppu.spritePixel s.launch.leftClip)).1
    (mixPixel (s.ppu.backgroundPixel s.launch.leftClip) (s.ppu.spritePixel s.launch.leftClip)).2 s

theorem frame_outputPixel (s : State) :
    (outputPixel s).ppu.frame = s.ppu.frame.modify s.ppu.scanline (putPixel (s.ppu.dot - 1) (dotColour s)) := rfl

theorem frameByte_congr {p q : Ppu} (h : q.frame = p.frame) (o : Nat) : q.frameByte o = p.frameByte o := by
  rw [Ppu.frameByte, Ppu.frameByte, h]

theorem frameByte_outputPixel {s : State} (hm : MemoryInv s) (hp : pixelDot s.ppu) (o : Nat) :
    (outputPixel s).ppu.frameByte o =
      if o / 1024 = s.ppu.scanline then
        if o % 1024 = 4 * (s.ppu.dot - 1) + 3 then 0xFF#8
        else if o % 1024 = 4 * (s.ppu.dot - 1) + 2 then (dotColour s).b
        else if o % 1024 = 4 * (s.ppu.dot - 1) + 1 then (dotColour s).g
        else if o % 1024 = 4 * (s.ppu.dot - 1) then (dotColour s).r else s.ppu.frameByte o
      else s.ppu.frameByte o := by
  rw [memoryInv_iff] at hm
  have hline : s.ppu.scanline < s.ppu.frame.length := by rw [hm.ppu.frame]; omega
  rw [← frameByte_modify hline fun row h => (hm.ppu.rows row h).wf]
  exact frameByte_congr (frame_outputPixel s) o

theorem paletteAddr_eq_ofNat (px : BitVec 2) (pal : BitVec 3) : 0x3F00#16 + pal.setWidth 16 * 4#16 + px.setWidth 16 =
    0x3F00#16 + BitVec.ofNat 16 (pal.toNat * 4 + px.toNat) := by
  revert px pal
  decide

theorem pixelColour_eq (px : BitVec 2) (pal : BitVec 3) (s : State) {lut : Rgb} (h : lut = Config.paletteRgb
    ((ppuRead (0x3F00#16 + BitVec.ofNat 16 (pal.toNat * 4 + px.toNat)) s).setWidth 6)) : pixelColour px pal s =
      if s.ppu.mask.extractLsb' 5 3 = 0#3 then lut else Config.emphasisRgb (s.ppu.mask.extractLsb' 5 3) lut := by
  subst h
  rw [← paletteAddr_eq_ofNat]
  rfl

/-! ### The frame buffer between frames (R262) -/

theorem frame_dotWork {s : State} (h : ¬ pixelDot s.ppu) : (dotWork s).ppu.frame = s.ppu.frame := by
  by_cases hl : renderedLine s.ppu
  · rw [dotWork_rendered hl]
    exact (lineWork_noPixel h).1
  · exact dotWork_changes_unrendered hl .frame (by decide)

theorem frame_ppuClock {s : State} (hs : ¬ skipsDot s.ppu) (h : ¬ pixelDot s.ppu) :
    (ppuClock s).ppu.frame = s.ppu.frame := by
  obtain ⟨hline, hdot⟩ := clockStart_counters hs
  have hstart : ¬ pixelDot (clockStart s).ppu := by rwa [pixelDot, hline, hdot]
  rw [← clockStart_changes s .frame (by decide), ← frame_dotWork hstart]
  exact Ppu.advance_changes _ .frame (by decide)

/-- The counters are on a line from 241 to 261. -/
structure Ppu.InVblankLines (p : Ppu) : Prop where
  first : 241 ≤ p.scanline
  last : p.scanline < 262
  dot : p.dot < 341

/-- The frame before has ended, and no dot of the next one has been worked on. -/
structure Ppu.AtFrameStart (p : Ppu) : Prop where
  scanline : p.scanline = 0
  dot : p.dot = 0
  frameReady : p.frameReady = true

theorem ppuClock_of_inVblankLines {s : State} (h : s.ppu.InVblankLines) :
    (ppuClock s).ppu.frame = s.ppu.frame ∧
      (((ppuClock s).ppu.InVblankLines ∧ framePosition (ppuClock s).ppu = framePosition s.ppu + 1) ∨
        (framePosition s.ppu + 1 = 89342 ∧ (ppuClock s).ppu.AtFrameStart)) := by
  obtain ⟨hfirst, hlast, hdot⟩ := h
  have hs : ¬ skipsDot s.ppu := fun hs => by omega
  have hc := counters_ppuClock s
  refine ⟨frame_ppuClock hs (fun hp => by omega), ?_⟩
  rw [Ppu.oddSkip_of_not_skipsDot hs, Ppu.counters_advance] at hc
  unfold framePosition
  split at hc
  · split at hc
    · simp only [Ppu.counters, Prod.mk.injEq] at hc
      obtain ⟨hl, hd, -, hr⟩ := hc
      exact .inr ⟨by omega, ⟨hl, hd, hr⟩⟩
    · simp only [Ppu.counters, Prod.mk.injEq] at hc
      obtain ⟨hl, hd, -⟩ := hc
      exact .inl ⟨⟨by omega, by omega, by omega⟩, by omega⟩
  · simp only [Ppu.counters, Prod.mk.injEq] at hc
    obtain ⟨hl, hd, -⟩ := hc
    exact .inl ⟨⟨by omega, by omega, by omega⟩, by omega⟩

theorem ppuClocks_of_inVblankLines (n : Nat) {s : State} (h : s.ppu.InVblankLines)
    (hn : framePosition s.ppu + n ≤ 89342) : (ppuClocks n s).ppu.frame = s.ppu.frame ∧
      (((ppuClocks n s).ppu.InVblankLines ∧ framePosition (ppuClocks n s).ppu = framePosition s.ppu + n) ∨
        (framePosition s.ppu + n = 89342 ∧ (ppuClocks n s).ppu.AtFrameStart)) := by
  induction n generalizing s with
  | zero => exact ⟨rfl, .inl ⟨h, (Nat.add_zero _).symm⟩⟩
  | succ n ih =>
    obtain ⟨hframe, ⟨hin, hpos⟩ | ⟨hpos, hstart⟩⟩ := ppuClock_of_inVblankLines h
    · obtain ⟨hframe', hnext⟩ := ih hin (by omega)
      rw [hpos, Nat.add_assoc, Nat.add_comm 1 n] at hnext
      exact ⟨hframe'.trans hframe, hnext⟩
    · obtain rfl : n = 0 := by omega
      exact ⟨hframe, .inr ⟨hpos, hstart⟩⟩

theorem Ppu.InVblankLines.holdsFrame {p : Ppu} (h : p.InVblankLines) : p.holdsFrame = true := by
  have := h.first
  have hline : decide (240 ≤ p.scanline) = true := decide_eq_true (by omega)
  rw [Ppu.holdsFrame, hline, Bool.or_true, Bool.true_or]

theorem Ppu.AtFrameStart.holdsFrame {p : Ppu} (h : p.AtFrameStart) : p.holdsFrame = true := by
  simp [Ppu.holdsFrame, h.scanline, h.dot]

/-- Settles O57: from line 241 the counters meet no dot with a pixel until the frame wraps, and a pixel is the four
writes at its column in its line's row. -/
theorem pixelOutput : Obligations.PixelOutput := by
  refine ⟨fun n s hl hd hn => ?window, fun s ho hp => ?pixel, fun s ho hp => ?noPixel,
    fun s bg fg lut c o hm hp hbg hfg hlut hc ho => ?bytes⟩
  case window =>
    have hin : s.ppu.InVblankLines := ⟨hl.ge, by omega, by omega⟩
    have hpos : framePosition s.ppu = 241 * 341 := by rw [framePosition, hl, hd]
    obtain ⟨hframe, ⟨hwin, hpos'⟩ | ⟨hend, hstart⟩⟩ := ppuClocks_of_inVblankLines n hin (by omega)
    · refine ⟨hframe, hwin.holdsFrame, fun he => ?_⟩
      have := hwin.last
      have := hwin.dot
      unfold framePosition at *
      omega
    · refine ⟨hframe, hstart.holdsFrame, fun _ => ⟨?_, hstart.scanline, hstart.dot⟩⟩
      simp [displayFrame, hstart.frameReady, hstart.holdsFrame, hframe]
  case pixel =>
    have hclock := ppuClock_rendered ho (.inl hp.1)
    obtain ⟨hframe, hhit⟩ := lineWork_pixel hp
    exact ⟨(hclock .frame (by decide)).trans hframe, (hclock .hit (by decide)).trans hhit⟩
  case noPixel =>
    refine ⟨frame_ppuClock ho.2 hp, ?_⟩
    by_cases hl : renderedLine s.ppu
    · rw [ppuClock_rendered ho hl .hit (by decide), (lineWork_noPixel hp).2, clearStage_eq]
      split <;> rfl
    · rw [if_neg (fun h => hl (.inr h.1))]
      exact ppuClock_unrendered ho hl .hit (by decide)
  case bytes =>
    subst hbg hfg ho
    obtain rfl : c = dotColour s := hc.trans (pixelColour_eq _ _ s hlut).symm
    have hat (k : Nat) (hk : k < 4) : ((s.ppu.scanline * 256 + (s.ppu.dot - 1)) * 4 + k) / 1024 = s.ppu.scanline ∧
        ((s.ppu.scanline * 256 + (s.ppu.dot - 1)) * 4 + k) % 1024 = 4 * (s.ppu.dot - 1) + k := by omega
    refine ⟨?_, ?_, ?_, ?_, rfl, fun x hx => ?_⟩
    · obtain ⟨hrow, hcol⟩ := hat 0 (by decide)
      rw [Nat.add_zero] at hrow hcol
      simp [frameByte_outputPixel hm hp, hrow, hcol]
    · simp [frameByte_outputPixel hm hp, hat 1 (by decide)]
    · simp [frameByte_outputPixel hm hp, hat 2 (by decide)]
    · simp [frameByte_outputPixel hm hp, hat 3 (by decide)]
    · rw [frameByte_outputPixel hm hp]
      split
      · rw [if_neg (by omega), if_neg (by omega), if_neg (by omega), if_neg (by omega)]
      · rfl

end Sys2Proof.Machine

/-! SUPPORT. The clock with rendering off (R231), and what no clock writes (R244). -/

namespace Sys2Proof.Machine

open Sys2Proof.Claims

theorem Ppu.layers_off {p : Ppu} (h : p.rendering = false) :
    p.mask.getLsbD 3 = false ∧ p.mask.getLsbD 4 = false := Bool.or_eq_false_iff.1 h

theorem not_skipsDot_of_off {p : Ppu} (h : p.rendering = false) : ¬ skipsDot p := by
  simp [skipsDot, h]

/-- The fetch still reads, and moves and loads nothing (log entry 17). -/
theorem backgroundFetch_changes_off {s : State} (h : s.ppu.rendering = false) :
    Changes [.latches] s (backgroundFetch s) := by
  obtain ⟨v, id, at_, lo_, hi_, a, b, c, d, e, -, -, -, -, hoff⟩ := backgroundFetch_fields s
  obtain ⟨rfl, rfl, rfl, rfl, rfl⟩ := hoff h
  rw [e]
  refine ⟨⟨_, rfl⟩, fun x hx => ?_⟩
  cases x <;> simp at hx <;> rfl

theorem active_lineWork_off {s : State} (h : s.ppu.rendering = false) :
    active (lineWork s).ppu = active s.ppu := by
  obtain ⟨-, hsprites⟩ := Ppu.layers_off h
  rw [active_lineWork, Ppu.active_spriteShift, if_neg (ne_true_of_eq_false hsprites), spriteLoads_eq]
  simp only [h, Bool.false_eq_true, false_and, if_false, ite_self]

theorem staged_lineWork_off {s : State} (h : s.ppu.rendering = false) :
    staged (lineWork s).ppu = staged s.ppu := by
  have hr : ¬ s.ppu.rendering = true := ne_true_of_eq_false h
  rw [(lineWork_unevaluated (mt And.left hr)).1, staged_spriteLoads, if_neg (mt And.left hr)]

/-- With rendering off the dot of a line writes the latches, the flags and the frame buffer alone. -/
theorem lineWork_changes_off {s : State} (h : s.ppu.rendering = false) :
    Ppu.ChangesOnly [.vblank, .latches, .overflow, .hit, .frame] s.ppu (lineWork s).ppu := by
  have hfetch := backgroundFetch_changes_off h
  have hoff : (backgroundFetch s).ppu.rendering = false := (Ppu.rendering_congr hfetch.regs).trans h
  intro x hx
  cases x with
  | v =>
    refine (lineWork_v s).trans ?_
    rw [Ppu.scrollUpdates_off hoff]
    exact hfetch.same .v (by decide)
  | shifters =>
    refine (lineWork_shifters s).trans ?_
    rw [Ppu.backgroundShift_off (mt And.right (ne_true_of_eq_false (Ppu.layers_off hoff).1))]
    exact hfetch.same .shifters (by decide)
  | staged => exact staged_lineWork_off h
  | active => exact active_lineWork_off h
  | regs => exact (lineWork_changes s).regs
  | oam => exact (lineWork_changes s).same .oam (by decide)
  | counters => exact (lineWork_changes s).counters
  | vblank | latches | overflow | hit | frame => simp at hx

theorem ppuClock_changes_off {s : State} (h : s.ppu.rendering = false) (hd : s.bus.oamDmaPpu = false) :
    Ppu.ChangesOnly [.vblank, .latches, .overflow, .hit, .frame, .counters] s.ppu (ppuClock s).ppu := by
  have ho : ownDot s := ⟨hd, not_skipsDot_of_off h⟩
  by_cases hl : renderedLine s.ppu
  · exact (lineWork_changes_off h).trans (ppuClock_rendered ho hl)
  · exact (ppuClock_unrendered ho hl).mono (by decide)

/-- Settles O58: the footprint of a clock with rendering off, and the frame of any clock. -/
theorem renderingOff : Obligations.RenderingOff := by
  refine ⟨fun s h hd => ?off, fun s => ?any⟩
  case off =>
    have hclock := ppuClock_changes_off h hd
    obtain ⟨-, -, ht, hfineX, -⟩ := Ppu.regs_eq_iff.1 (regs_ppuClock s)
    exact ⟨hclock .v (by decide), ht, hfineX, hclock .shifters (by decide), hclock .staged (by decide),
      hclock .active (by decide), hclock .oam (by decide)⟩
  case any =>
    obtain ⟨hcpu, hcart, hlaunch, nmi, hbus⟩ := ppuClock_frame s
    obtain ⟨-, -, -, -, hnt, hpal⟩ := Ppu.regs_eq_iff.1 (regs_ppuClock s)
    exact ⟨hcpu, by rw [hbus], hcart, hlaunch, hnt, hpal⟩

end Sys2Proof.Machine

/-! SUPPORT. Interrupt entry and the NMI request (R234, R238), and that nothing stops a tick but a refused unstable
opcode (R232). -/

namespace Sys2Proof.Machine

open Sys2Proof.Claims

/-- Settles O28: the entry that BRK shares, through the interrupt's vector, and then the entry's cycles. -/
theorem interruptEntry : Obligations.InterruptEntry := by
  intro k s
  rw [enterInterrupt, enterVia_eq_pushedOn]
  cases k <;> rfl

/-! ### Who may clear the NMI request (R234) -/

theorem push_nmiSignal (v : Byte) (s : State) : (push v s).bus.nmiSignal = s.bus.nmiSignal := by
  rw [push_eq]

/-- A PPU register write can raise an NMI request, by $2000, and clears none (R192). -/
theorem ppuRegWrite_keeps_nmiSignal {s : State} (r : Nat) (v : Byte) (h : s.bus.nmiSignal = true) :
    (ppuRegWrite r v s).bus.nmiSignal = true := by
  obtain e | e | ⟨f, e, -⟩ | e := ppuRegWrite_cases r v s <;> rw [e]
  · exact h
  · simp only [writePpuCtrl, h, Bool.true_or]
  · exact h
  · rwa [State.mapPpu_bus, ppuWrite_bus]

theorem busWrite_keeps_nmiSignal {s : State} (a : Addr) (v : Byte) (h : s.bus.nmiSignal = true) :
    (busWrite a v s).bus.nmiSignal = true := by
  obtain ⟨-, e⟩ | ⟨-, e | e | e | e | e⟩ := busWrite_cases a v s <;> rw [e]
  case inr.inl => exact ppuRegWrite_keeps_nmiSignal _ v h
  all_goals exact h

theorem exec_nmiSignal_of_pushes {i : Instr} {s t : State} (h : 0 < pushCount i) (ht : exec i s = .next t) :
    t.bus.nmiSignal = s.bus.nmiSignal := by
  obtain rfl | rfl | rfl | ⟨a, rfl⟩ := cases_of_pushCount_pos h
  · obtain rfl := Host.Outcome.next.inj ht
    exact push_nmiSignal s.cpu.a s
  · obtain rfl := Host.Outcome.next.inj ht
    exact push_nmiSignal s.cpu.pushedByBreak s
  · obtain rfl := Host.Outcome.next.inj ((exec_brk s).symm.trans ht)
    rfl
  · obtain rfl := Host.Outcome.next.inj ((exec_jsrAbs a s).symm.trans ht)
    rfl

/-- An instruction reaches the bus by one store, by pushes, or by reads alone, and none clears the request. -/
theorem exec_keeps_nmiSignal (i : Instr) {s : State} (h : s.bus.nmiSignal = true) :
    Yields (fun t => t.bus.nmiSignal = true) (exec i s) := by
  intro t ht
  obtain ⟨-, o, -, hstore⟩ | ⟨-, hpush | hsame⟩ := exec_memory i s
  · obtain ⟨u, v, c, hu, -, rfl⟩ := hstore t ht
    exact busWrite_keeps_nmiSignal _ v (by rw [hu.bus, h])
  · rw [exec_nmiSignal_of_pushes hpush ht, h]
  · rw [(hsame t ht).bus, h]

theorem dmaStall_nmiSignal (s : State) : (dmaStall s).bus.nmiSignal = s.bus.nmiSignal := by
  obtain ⟨-, e⟩ | ⟨-, e⟩ := dmaStall_cases s <;> rw [e]

theorem fetchInstr_bus (s : State) : (fetchInstr s).2.bus = s.bus :=
  (fetchBytes_bus _ _).trans (fetchByte_bus s)

/-- The CPU's work keeps the request, unless it is the entry of an NMI. -/
theorem dueWork_keeps_nmiSignal {s : State} (h : s.bus.nmiSignal = true)
    (hno : ¬ (s.cpu.cycl = s.cpu.next ∧ pendingInterrupt s = some .nmi)) :
    Yields (fun t => t.bus.nmiSignal = true) (dueWork s) := by
  by_cases hdue : s.cpu.cycl = s.cpu.next
  · cases hp : pendingInterrupt s with
    | none =>
      rw [dueWork_instruction hdue hp]
      exact exec_keeps_nmiSignal _ (by rw [fetchInstr_bus, h])
    | some k =>
      rw [dueWork_interrupt hdue hp]
      cases k with
      | irq => exact yields_next ((enterInterrupt_nmiSignal .irq s).trans h)
      | nmi => exact absurd ⟨hdue, hp⟩ hno
  · rw [dueWork_busy hdue]
    exact yields_next h

/-- A PPU clock can raise an NMI request, at the start of vblank, and clears none (R211). -/
theorem ppuClock_keeps_nmiSignal {s : State} (h : s.bus.nmiSignal = true) :
    (ppuClock s).bus.nmiSignal = true := by
  rw [ppuClock_eq, State.mapPpu_bus, nmiSignal_dotWork, nmiSignal_clockStart, h, Bool.true_or, ite_self]

/-- What a result yields and the rest of the tick keeps, the tick yields. -/
theorem yields_restOfTick {P : State → Prop} {r : Result} (hcount : ∀ s, P s → P (s.mapCpu Cpu.countCycle))
    (hppu : ∀ s, P s → P (ppuClock s)) (h : Yields P r) : Yields P (restOfTick r) := by
  cases r with
  | next t => exact yields_next (hppu _ (hppu _ (hppu _ (hcount t (h t rfl)))))
  | fault => exact yields_fault
  | refused => exact yields_refused

/-- Settles O32: of the stages of a step only the entry of an NMI clears the request. -/
theorem nmiRequestStaysUntilServiced : Obligations.NmiRequestStaysUntilServiced := by
  intro s t ht h
  refine or_iff_not_imp_right.2 fun hno => ?_
  cases hj : s.cpu.jammed with
  | true =>
    rw [step_of_jammed hj] at ht
    obtain rfl := Host.Outcome.next.inj ht
    exact ppuClock_keeps_nmiSignal (ppuClock_keeps_nmiSignal (ppuClock_keeps_nmiSignal h))
  | false =>
    rw [step_of_running hj] at ht
    have hwork := dueWork_keeps_nmiSignal ((dmaStall_nmiSignal s).trans h) fun hnmi => hno ⟨hj, hnmi⟩
    exact yields_restOfTick (P := fun t => t.bus.nmiSignal = true) (fun _ => id)
      (fun _ => ppuClock_keeps_nmiSignal) hwork t ht

/-! ### Every tick gives a next state (R232) -/

theorem busKeeps_launch (l : Launch) : BusKeeps (fun s => s.launch = l) where
  cpu _ h := h
  lines _ h := h
  read a h := (busRead_launch a _).trans h
  write a v h := (busWrite_launch a v _).trans h

theorem step_launch {s t : State} (ht : step s = .next t) : t.launch = s.launch := by
  refine (busKeeps_launch s.launch).step (fun u h => ?_) rfl t ht
  obtain ⟨-, -, hlaunch, -⟩ := ppuClock_frame u
  exact hlaunch.trans h

/-- There are no faults, so what is not refused completes. -/
theorem exists_next_of_not_refused {r : Result} (h : ∀ x, r ≠ .refused x) : ∃ t, r = .next t := by
  cases r with
  | next t => exact ⟨t, rfl⟩
  | fault x => exact nomatch x
  | refused x => exact absurd rfl (h x)

theorem step_next_of_nmos {s : State} (h : s.launch.unstablePolicy = .nmos) :
    ∃ t, step s = .next t ∧ t.launch = s.launch := by
  obtain ⟨hrefusals, -⟩ := refusesOnlyUnstableOpcodes
  obtain ⟨t, ht⟩ := exists_next_of_not_refused fun r hr => by
    obtain ⟨hrefuse, -⟩ := hrefusals s r hr
    exact absurd (h.symm.trans hrefuse) (by decide)
  exact ⟨t, ht, step_launch ht⟩

/-- Settles O33: a refusal needs the other policy, there are no faults, and a step keeps the launch. -/
theorem neverStopsUnderNmos : Obligations.NeverStopsUnderNmos := by
  refine ⟨fun s => step_next_of_nmos, fun k => ?_⟩
  induction k with
  | zero => exact fun s _ => ⟨s, rfl⟩
  | succ k ih =>
    intro s h
    obtain ⟨t, ht, hlaunch⟩ := step_next_of_nmos h
    obtain ⟨u, hu⟩ := ih t (by rw [hlaunch, h])
    have hstep : core.step s = .next t := ht
    exact ⟨u, by simp only [Host.Core.run, hstep, hu]⟩

end Sys2Proof.Machine

/-! SUPPORT. Reset and power-on (R253-R255): the vector read, the memories as the launch lists them, and the idle
ticks before the first fetch. -/

namespace Sys2Proof.Machine

open Sys2Proof.Claims

/-! ### The reset state -/

theorem resetCore_eq (s : State) : resetCore s = { s with
    cpu := { Cpu.atReset with pc := cartWord s.cart 0xFFFC#16 }
    bus := { Bus.atReset with ram := s.bus.ram, irqLine := s.bus.irqLine }
    ppu := { Ppu.atReset with oam := s.ppu.oam, nt := s.ppu.nt, pal := s.ppu.pal } } := by
  have hlow : (0x8000#16).ule resetVector = true := by decide
  have hhigh : (0x8000#16).ule (resetVector + 1#16) = true := by decide
  rw [resetCore, readWord_cartridge hlow hhigh]
  rfl

section powerOnParts

variable (l : Launch) (c : Cartridge) (d : InputDevice) (init : InitContents)

theorem powerOn_cpu : (powerOn l c d init).cpu = { Cpu.atReset with pc := cartWord c 0xFFFC#16 } := by
  rw [powerOn, resetCore_eq]

theorem powerOn_bus :
    (powerOn l c d init).bus = { Bus.atReset with ram := Memory.ofCells 0xFF#8 init.ram } := by
  rw [powerOn, resetCore_eq]

theorem powerOn_ppu : (powerOn l c d init).ppu = { Ppu.atReset with
    oam := Memory.ofCells 0xFF#8 init.oam
    nt := Memory.ofCells 0xFF#8 init.nt
    pal := Memory.ofCells 0x3F#8 init.pal } := by
  rw [powerOn, resetCore_eq]

end powerOnParts

theorem Memory.Fits.nil (bound : Nat) : Memory.Fits bound [] := ⟨rfl, rfl⟩

theorem reset_memoriesFit : State.reset.MemoriesFit where
  ram := .nil _
  ppu := ⟨.nil _, .nil _, .nil _, rfl, List.length_replicate,
    fun _ h => List.eq_of_mem_replicate h ▸ .nil _⟩
  cart := ⟨.nil _, .nil _⟩

/-- Settles O39: the reset registers and counters are constants in their ranges, and the memories are empty. -/
theorem resetMeetsInvariants : Obligations.ResetMeetsInvariants :=
  ⟨by unfold StatInv; decide, by unfold CycleInv; decide, by unfold PpuInv; decide,
    (memoryInv_iff _).2 reset_memoriesFit⟩

/-! ### The memories that a launch lists -/

/-- `m` with the cells put in it one after the other, each masked with `keep`. -/
def Memory.putAll (keep : Byte) (m : Memory) (cells : List Host.Cell) : Memory :=
  cells.foldl (fun m c => m.put c.1 (c.2 &&& keep)) m

theorem Memory.ofCells_eq_putAll (keep : Byte) (cells : List Host.Cell) :
    Memory.ofCells keep cells = Memory.putAll keep [] cells := rfl

theorem Memory.putAll_cons (keep : Byte) (m : Memory) (c : Host.Cell) (rest : List Host.Cell) :
    m.putAll keep (c :: rest) = (m.put c.1 (c.2 &&& keep)).putAll keep rest := rfl

theorem Memory.get_putAll_of_notMem (keep : Byte) {cells : List Host.Cell} {m : Memory} {a : Nat}
    (h : a ∉ cells.map Prod.fst) : (m.putAll keep cells).get a = m.get a := by
  induction cells generalizing m with
  | nil => rfl
  | cons c rest ih =>
    rw [List.map_cons, List.mem_cons, not_or] at h
    obtain ⟨hne, hrest⟩ := h
    rw [putAll_cons, ih hrest, get_put_of_ne _ _ hne]

theorem Memory.get_putAll_of_mem (keep : Byte) {cells : List Host.Cell} {m : Memory} (hm : m.wf = true)
    (hnodup : (cells.map Prod.fst).Nodup) {x : Host.Cell} (hx : x ∈ cells) :
    (m.putAll keep cells).get x.1 = x.2 &&& keep := by
  induction cells generalizing m with
  | nil => exact absurd hx List.not_mem_nil
  | cons c rest ih =>
    obtain ⟨hc, hrest⟩ := List.nodup_cons.1 hnodup
    rw [putAll_cons]
    obtain rfl | hx := List.mem_cons.1 hx
    · rw [get_putAll_of_notMem keep hc, get_put_same m hm]
    · exact ih (m.wf_put _ _ hm) hrest hx

/-- Settles O59: the reset state as one record, and a listed cell read back past the cells put after it. -/
theorem resetWrites : Obligations.ResetWrites := by
  refine ⟨fun s => ?reset, fun l c d init => ?power, fun keep cells x hnodup hx => ?listed⟩
  case reset =>
    rw [resetCore_eq]
    exact ⟨rfl, rfl, rfl, rfl, rfl, rfl⟩
  case power =>
    rw [powerOn_cpu, powerOn_bus, powerOn_ppu]
    exact ⟨rfl, rfl, rfl, rfl, rfl⟩
  case listed =>
    rw [Memory.ofCells_eq_putAll]
    exact Memory.get_putAll_of_mem keep rfl hnodup hx

/-! ### The idle ticks (R255) -/

/-- The next `n` PPU clocks are dots of the first line, with rendering off and no OAM-DMA copy waiting. -/
structure QuietDots (n : Nat) (s : State) : Prop where
  line : s.ppu.scanline = 0
  dot : s.ppu.dot + n ≤ 340
  off : s.ppu.rendering = false
  copy : s.bus.oamDmaPpu = false

/-- `t` is `s` after `n` PPU clocks that change nothing outside the PPU and stay on the line. -/
structure DotsRun (n : Nat) (s t : State) : Prop where
  cpu : t.cpu = s.cpu
  bus : t.bus = s.bus
  line : t.ppu.scanline = s.ppu.scanline
  dot : t.ppu.dot = s.ppu.dot + n
  rendering : t.ppu.rendering = s.ppu.rendering

theorem DotsRun.trans {m n : Nat} {s t u : State} (h : DotsRun m s t) (h' : DotsRun n t u) :
    DotsRun (m + n) s u where
  cpu := h'.cpu.trans h.cpu
  bus := h'.bus.trans h.bus
  line := h'.line.trans h.line
  dot := by rw [h'.dot, h.dot, Nat.add_assoc]
  rendering := h'.rendering.trans h.rendering

theorem ppuClock_dotsRun {n : Nat} {s : State} (h : QuietDots (n + 1) s) : DotsRun 1 s (ppuClock s) := by
  obtain ⟨hline, hdot, hoff, hcopy⟩ := h
  obtain ⟨hcpu, -, -, b, hbus⟩ := ppuClock_frame s
  obtain ⟨-, -, helsewhere⟩ := vblankFlags s
  have hnmi : (ppuClock s).bus.nmiSignal = s.bus.nmiSignal := (helsewhere (by omega)).1
  have hskip : ¬ skipsDot s.ppu := by simp [skipsDot, hoff]
  have hcounters := counters_ppuClock s
  rw [Ppu.oddSkip_of_not_skipsDot hskip, Ppu.counters_advance, if_neg (by omega)] at hcounters
  simp only [Ppu.counters, Prod.mk.injEq] at hcounters
  obtain ⟨hline', hdot', -⟩ := hcounters
  refine ⟨hcpu, ?bus, hline', hdot', rendering_ppuClock s⟩
  case bus =>
    obtain rfl : b = s.bus.nmiSignal := (congrArg Bus.nmiSignal hbus).symm.trans hnmi
    rw [hbus, ← hcopy]

theorem ppuClocks_dotsRun {n : Nat} {s : State} (h : QuietDots n s) : DotsRun n s (ppuClocks n s) := by
  induction n generalizing s with
  | zero => exact ⟨rfl, rfl, rfl, rfl, rfl⟩
  | succ n ih =>
    have hone := ppuClock_dotsRun h
    have hquiet : QuietDots n (ppuClock s) := {
      line := hone.line.trans h.line
      dot := by rw [hone.dot, Nat.add_assoc, Nat.add_comm 1]; exact h.dot
      off := hone.rendering.trans h.off
      copy := by rw [hone.bus, h.copy] }
    have hall := hone.trans (ih hquiet)
    rw [Nat.add_comm] at hall
    exact hall

/-- For the next `n` ticks the CPU is busy and the PPU's dots are quiet. -/
structure IdleFor (n : Nat) (s : State) : Prop where
  jammed : s.cpu.jammed = false
  stall : s.bus.oamDmaCpu = false
  busy : s.cpu.cycl + n ≤ s.cpu.next
  noWrap : s.cpu.next < 60000
  dots : QuietDots (3 * n) s

/-- `t` is `s` after `n` ticks that count cycles and dots alone. -/
structure TicksRun (n : Nat) (s t : State) : Prop where
  cpu : t.cpu = { s.cpu with cycl := s.cpu.cycl + n }
  bus : t.bus = s.bus
  line : t.ppu.scanline = s.ppu.scanline
  dot : t.ppu.dot = s.ppu.dot + 3 * n
  rendering : t.ppu.rendering = s.ppu.rendering

theorem TicksRun.trans {m n : Nat} {s t u : State} (h : TicksRun m s t) (h' : TicksRun n t u) :
    TicksRun (m + n) s u where
  cpu := by simp only [h'.cpu, h.cpu, Nat.add_assoc]
  bus := h'.bus.trans h.bus
  line := h'.line.trans h.line
  dot := by rw [h'.dot, h.dot, Nat.add_assoc, Nat.mul_add]
  rendering := h'.rendering.trans h.rendering

theorem step_ticksRun {n : Nat} {s : State} (h : IdleFor (n + 1) s) :
    ∃ t, step s = .next t ∧ TicksRun 1 s t := by
  obtain ⟨hj, hstall, hbusy, hwrap, ⟨hline, hdot, hoff, hcopy⟩⟩ := h
  obtain ⟨hwait, -, hcount, -⟩ := busyTicksOnlyCount
  have hstep : step s = .next (ppuClocks 3 (s.mapCpu Cpu.countCycle)) := hwait s hj hstall (by omega)
  have hdot3 : s.ppu.dot + 3 ≤ 340 := by omega
  have hrun := ppuClocks_dotsRun (s := s.mapCpu Cpu.countCycle) ⟨hline, hdot3, hoff, hcopy⟩
  exact ⟨_, hstep, hrun.cpu.trans (hcount s.cpu (by omega)), hrun.bus, hrun.line, hrun.dot, hrun.rendering⟩

theorem IdleFor.of_ticksRun {n : Nat} {s t : State} (h : IdleFor (n + 1) s) (hone : TicksRun 1 s t) :
    IdleFor n t where
  jammed := by rw [hone.cpu, h.jammed]
  stall := by rw [hone.bus, h.stall]
  busy := by
    have hbusy := h.busy
    simp only [hone.cpu]
    omega
  noWrap := by simpa only [hone.cpu] using h.noWrap
  dots := {
    line := hone.line.trans h.dots.line
    dot := by
      have hdot := h.dots.dot
      rw [hone.dot]
      omega
    off := hone.rendering.trans h.dots.off
    copy := by rw [hone.bus, h.dots.copy] }

theorem run_ticksRun {n : Nat} {s : State} (h : IdleFor n s) :
    ∃ t, Host.Core.run core n s = .next t ∧ TicksRun n s t := by
  induction n generalizing s with
  | zero => exact ⟨s, rfl, rfl, rfl, rfl, rfl, rfl⟩
  | succ n ih =>
    obtain ⟨u, hstep, hone⟩ := step_ticksRun h
    obtain ⟨t, hrun, hrest⟩ := ih (h.of_ticksRun hone)
    have hcore : core.step s = .next u := hstep
    exact ⟨t, by simp only [Host.Core.run, hcore, hrun], Nat.add_comm 1 n ▸ hone.trans hrest⟩

theorem Ppu.rendering_of_mask_zero {p : Ppu} (h : p.mask = 0x00#8) : p.rendering = false := by
  simp [rendering, showBg, showSprites, h]

theorem powerOn_idleFor (l : Launch) (c : Cartridge) (d : InputDevice) (init : InitContents) {k : Nat}
    (hk : k ≤ 7) : IdleFor k (powerOn l c d init) where
  jammed := by rw [powerOn_cpu]; rfl
  stall := by rw [powerOn_bus]; rfl
  busy := by simpa only [powerOn_cpu, Cpu.atReset, Nat.zero_add] using hk
  noWrap := by simp only [powerOn_cpu, Cpu.atReset, Nat.reduceLT]
  dots := {
    line := by rw [powerOn_ppu]; rfl
    dot := by simp only [powerOn_ppu, Ppu.atReset]; omega
    off := Ppu.rendering_of_mask_zero (by rw [powerOn_ppu]; rfl)
    copy := by rw [powerOn_bus]; rfl }

/-- Settles O60: after power-on seven ticks are idle, and each counts one cycle and three dots. -/
theorem firstFetchAfterReset : Obligations.FirstFetchAfterReset := by
  intro l c d init k hk
  have hidle := powerOn_idleFor l c d init hk
  obtain ⟨t, hrun, hticks⟩ := run_ticksRun hidle
  have hcycl : (powerOn l c d init).cpu.cycl = 0 := by rw [powerOn_cpu]; rfl
  have hnext : (powerOn l c d init).cpu.next = 7 := by rw [powerOn_cpu]; rfl
  have hdot : (powerOn l c d init).ppu.dot = 0 := by rw [powerOn_ppu]; rfl
  refine ⟨t, hrun, by rw [hticks.cpu, hcycl, Nat.zero_add], hticks.line.trans hidle.dots.line,
    by rw [hticks.dot, hdot, Nat.zero_add], hticks.bus, ?_⟩
  simp only [due, hticks.cpu, hticks.bus, hidle.jammed, hidle.stall, hcycl, hnext, Nat.zero_add, true_and]

end Sys2Proof.Machine
